-- ==== Sys2Proof/Word.lean ====
section
/-! DEFINITION. The widths of the register window (R178): bytes on D7–D0, sixteen-bit quantities high byte first,
six address lines A5–A0. -/

namespace Sys2Proof

/-- One byte of the register window. -/
abbrev Byte := BitVec 8

/-- A sixteen-bit quantity of the window (two addresses, high byte first). -/
abbrev Half := BitVec 16

/-- A window address, A5–A0. -/
abbrev Addr := BitVec 6

end Sys2Proof
end

