-- ==== Sys2Proof/Syntax.lean ====
section
/-! DEFINITION. The commands of the block: one constructor for each row of spec/opcode_table.json, with its operands. -/

namespace Sys2Proof

/-- R65: the eleven bytes of a command record behind its code: condition, tag, A, B and the immediate I0 to I6. -/
structure Operands where
  cond : Byte
  tag : Byte
  a : Byte
  b : Byte
  i0 : Byte
  i1 : Byte
  i2 : Byte
  i3 : Byte
  i4 : Byte
  i5 : Byte
  i6 : Byte
deriving DecidableEq, Repr

/-- R65: a command record of twelve bytes, as staged and as queued. -/
structure CmdRec where
  code : Byte
  ops : Operands
deriving DecidableEq, Repr

/-- Section 4.2: the sixteen commands of the host. -/
inductive Opcode where
  | mark | add | sub | move | negate | clear | compare
  | setattr | setthresh | chanconfig | chanclear
  | batchOpen | batchCommit | batchAbort
  | report | reportPeriodic
deriving DecidableEq, Repr

/-- The 47 steps of the part (spec/95_what_each_step_holds.md), each whole and indivisible. -/
inductive Instr where
  /-- POWER_ON_RESET (R18): supply rise. -/
  | powerOnReset
  /-- INTERFACE_RESET (R191): RSTn goes low. -/
  | interfaceReset
  /-- RSTN_RISE (R192): RSTn goes high. -/
  | rstnRise
  /-- SAMPLE (R148): one REFCLK period; bit n of `levels` is the raw level of CNTn. -/
  | sample (levels : Byte)
  /-- UNIT_ARRIVAL (R49): the channel's divider count reaches zero. -/
  | unitArrival (ch : Fin 8)
  /-- MILLISECOND_TICK (R149): the tick in progress ends. -/
  | millisecondTick
  /-- GRANT (R26): the arbiter decides a waiting request at a FREE engine. -/
  | grant
  /-- POST_COMPLETION (R29). -/
  | postCompletion
  /-- ARITHMETIC_COMPLETION (R98). -/
  | arithmeticCompletion
  /-- RESTORE_COMPLETION (R118). -/
  | restoreCompletion
  /-- MARK (R92): the sequencer takes a MARK. -/
  | mark (o : Operands)
  /-- ADD (R78). -/
  | add (o : Operands)
  /-- SUB (R78). -/
  | sub (o : Operands)
  /-- MOVE (R79). -/
  | move (o : Operands)
  /-- NEGATE (R80). -/
  | negate (o : Operands)
  /-- CLEAR (R80). -/
  | clear (o : Operands)
  /-- COMPARE (R81). -/
  | compare (o : Operands)
  /-- SETATTR (R83). -/
  | setattr (o : Operands)
  /-- SETTHRESH (R84). -/
  | setthresh (o : Operands)
  /-- CHANCONFIG (R85). -/
  | chanconfig (o : Operands)
  /-- CHANCLEAR (R86). -/
  | chanclear (o : Operands)
  /-- BATCH_OPEN (R87). -/
  | batchOpen (o : Operands)
  /-- BATCH_COMMIT (R88). -/
  | batchCommit (o : Operands)
  /-- BATCH_ABORT (R89). -/
  | batchAbort (o : Operands)
  /-- REPORT (R90). -/
  | report (o : Operands)
  /-- REPORT_PERIODIC (R91). -/
  | reportPeriodic (o : Operands)
  /-- BATCH_TIMER_EXPIRY (R125). -/
  | batchTimerExpiry
  /-- INTERVAL_EXPIRY (R155). -/
  | intervalExpiry
  /-- FRAME_COMPLETION (R171). -/
  | frameCompletion
  /-- LINK_TIMEOUT (R173). -/
  | linkTimeout
  /-- SUBMIT (R180): a write of 10h. -/
  | submit (v : Byte)
  /-- COMPPOP (R103): a write of 18h. -/
  | comppop (v : Byte)
  /-- EVTPOP (R143): a write of 1Eh. -/
  | evtpop (v : Byte)
  /-- IRQFLAG (R189): a write of 02h. -/
  | irqflag (v : Byte)
  /-- IRQEN (R190): a write of 03h. -/
  | irqen (v : Byte)
  /-- INIT (R182): a write of CONTROL, 01h, with bit 0 set. -/
  | init (v : Byte)
  /-- ACCUMULATOR_CAPTURE (R187): a read of 21h. -/
  | accumulatorCapture
  /-- CHANNEL_CAPTURE (R188): a read of 29h. -/
  | channelCapture
  /-- LINKSTATUS (R175): a read of 3Ah. -/
  | linkstatus
  /-- INTCOUNT (R153): a read of 33h. -/
  | intcount
  /-- INTERVAL_WRITE (R157): a write of the INTERVAL low byte, 32h. -/
  | intervalWrite (v : Byte)
  /-- TBCTRL (R156): a write of 30h. -/
  | tbctrl (v : Byte)
  /-- LINKCTRL (R174): a write of 38h. -/
  | linkctrl (v : Byte)
  /-- REGISTER_WRITE (R178): a write of an address without a row of its own. -/
  | registerWrite (addr : Addr) (v : Byte)
  /-- LCLK_FALLING_EDGE (R170): a falling edge from the receiver. -/
  | lclkFallingEdge
  /-- LCLK_RISING_EDGE (R170): a rising edge from the receiver. -/
  | lclkRisingEdge
  /-- READ_ACCESS (R178): a read of an address without a step of its own. -/
  | readAccess (addr : Addr)
deriving DecidableEq, Repr

end Sys2Proof
end

