-- ==== Sys2Proof/Decode.lean ====
section
/-! DEFINITION. The decoder over the rows of spec/opcode_table.json that have bits. Every row's "fields" is empty and no
row has "fixed" bits, so no word spells a command (log 8). -/

namespace Sys2Proof

/-- The command that a word of `nbits` bits spells: none, for no row has bits. -/
def decodeTableWord (_nbits _w : Nat) : Option Instr := none

end Sys2Proof
end

