-- ==== Sys2Proof/Config.lean ====
section
/-! DEFINITION. The fixed sizes of the part, and the one free value of the model. -/

namespace Sys2Proof.Config

/-- R93: records the command queue holds. -/
def queueDepth : Nat := 16

/-- R102: records the completion ring holds. -/
def ringDepth : Nat := 16

/-- R111: records the undo stack holds. -/
def undoDepth : Nat := 12

/-- R140: records the event queue holds. -/
def eventDepth : Nat := 24

/-- R161: jobs the report queue holds. -/
def reportDepth : Nat := 8

/-- R14: a chain has at most 32 entries, so 32 steps follow it to its end. -/
def chainFuel : Nat := 32

/-- FREE VALUE (log 6). Where the spec lets several events of one instant go in any order (R136, R144, R148, R150),
the n-th such choice is taken by this number. Nothing is known of it. -/
opaque freePick : Nat → Nat

end Sys2Proof.Config
end

