-- ==== Sys2Proof/Machine/State.lean ====
section
/-! DEFINITION. What the machine is: every piece of state the spec gives the DT8, as plain data, its value after
power-on reset, and the named updates of its fields. -/

namespace Sys2Proof.Machine

/-! ### Accumulator store (ch. 1) -/

/-- A signed decimal value: sign and magnitude (R2, log 17). The digits are those of `mag`. -/
structure Dec where
  neg : Bool
  mag : Nat
deriving DecidableEq, Repr

/-- R4: what a fit does with a result that is too large. -/
inductive Policy where
  | wrap | saturate
deriving DecidableEq, Repr

/-- R4: the attribute record of an entry. -/
structure Attr where
  width : Nat
  policy : Policy
  link : Option (Fin 32)
  notifyWrap : Bool
deriving DecidableEq, Repr

/-- R6: the direction filter of a threshold. -/
inductive Filter where
  | up | down | both
deriving DecidableEq, Repr

/-- R6: a threshold record that is present. -/
structure Threshold where
  value : Dec
  filter : Filter
deriving DecidableEq, Repr

/-- R7: the side of the threshold on which the committed value last stood. -/
inductive Side where
  | below | atOrAbove
deriving DecidableEq, Repr

/-- R1: one accumulator entry. -/
structure Entry where
  value : Dec
  attr : Attr
  threshold : Option Threshold
  side : Side
  held : Bool
deriving DecidableEq, Repr

/-! ### The fit and the chain write (sections 1.6, 1.7) -/

/-- Section 1.6: the three outcomes of a fit. -/
inductive FitOutcome where
  | inRange | wrapped | saturated
deriving DecidableEq, Repr

/-- R10–R12: what a fit gives: its outcome, the new value, and the carry of a WRAPPED fit. -/
structure Fit where
  outcome : FitOutcome
  value : Dec
  carry : Option Dec
deriving DecidableEq, Repr

/-- R15: one entry written by a chain write, with its value from just before the completion (R38). -/
structure Written where
  index : Fin 32
  outcome : FitOutcome
  prior : Dec
deriving DecidableEq, Repr

/-! ### Decimal engine (ch. 2) -/

/-- R43: whether a post adds its weight or subtracts it. -/
inductive Direction where
  | add | subtract
deriving DecidableEq, Repr

/-- R21: the kind of an operation, with its second operand. -/
inductive OpKind where
  | post (ch : Fin 8) (weight : Nat) (dir : Direction)
  | add (src : Dec)
  | sub (src : Dec)
  | move (src : Dec)
  | negate
  | clear
  | compare (src : Dec)
  | restore (prior : Dec)
deriving DecidableEq, Repr

/-- R21: an operation record. -/
structure Operation where
  kind : OpKind
  target : Fin 32
deriving DecidableEq, Repr

/-- R21, R22: the two sides of the engine arbiter. -/
inductive ArbSide where
  | post | command
deriving DecidableEq, Repr

/-- R21, R22: the engine and its arbiter. The engine is FREE exactly while no operation is in flight. -/
structure Engine where
  inFlight : Option Operation
  lastGranted : ArbSide
  postReq : Bool
  cmdReq : Bool
deriving DecidableEq, Repr

/-! ### Pulse channels (ch. 3) -/

/-- R43: which changes of the qualified level are counted. -/
inductive EdgeSel where
  | rising | falling | both
deriving DecidableEq, Repr

/-- R43: the channel record. -/
structure ChanRecord where
  enable : Bool
  edge : EdgeSel
  qualify : Nat
  divider : Nat
  weight : Nat
  dir : Direction
  target : Fin 32
deriving DecidableEq, Repr

/-- R44: the input state of a channel. -/
inductive InputState where
  | disabled | arming | armed
deriving DecidableEq, Repr

/-- R43, R44: a channel's record and its state. -/
structure Channel where
  record : ChanRecord
  input : InputState
  level : Bool
  qcount : Nat
  divCount : Nat
  units : Nat
  dropped : Nat
  overrun : Bool
  rate : Nat
  rateLatch : Nat
deriving DecidableEq, Repr

/-! ### Command pipeline (ch. 4, 5) -/

/-- R77: the flag word. -/
structure FlagWord where
  n : Bool
  z : Bool
  c : Bool
  v : Bool
deriving DecidableEq, Repr

/-- R76: the nine completion statuses. -/
inductive Status where
  | done | skipped | void | badState | inBatch | undoFull | attrInvalid | channelBusy | reportFull
deriving DecidableEq, Repr

/-- R76, R102: a completion record. -/
structure Completion where
  tag : Byte
  code : Byte
  status : Status
  flags : FlagWord
deriving DecidableEq, Repr

/-- R95: the sequencer state with the command in hand. -/
inductive SeqState where
  | idle
  | stalled
  | waiting (r : CmdRec)
  | executing (r : CmdRec)
  | unwinding (abort : Option CmdRec)
deriving DecidableEq, Repr

/-- R94: the result of the most recent submit write. -/
inductive SubmitResult where
  | none | accepted | queueFull | malformed
deriving DecidableEq, Repr

/-! ### Batch unit (ch. 6) -/

/-- R110: the batch state. -/
inductive BatchPhase where
  | none | opened | unwinding | void
deriving DecidableEq, Repr

/-- R110: the unwind cause. -/
inductive UnwindCause where
  | abort | void | reset
deriving DecidableEq, Repr

/-- R111: an undo record. -/
structure UndoRec where
  index : Fin 32
  prior : Dec
deriving DecidableEq, Repr

/-- R110: the batch unit. The undo stack is listed newest first; a timer of `none` is stopped. -/
structure Batch where
  phase : BatchPhase
  cause : UnwindCause
  undo : List UndoRec
  timer : Option Nat
  member : Bool
  deferred : Bool
deriving DecidableEq, Repr

/-! ### Events (ch. 7) -/

/-- R141: the kinds of event. -/
inductive EventKind where
  | threshold | wrap | saturated | overrun | batchVoid | interval
  | reportDone | reportAborted | reportTimeout | reportSkipped | lost
deriving DecidableEq, Repr

/-- R140, R142: an event as a raising block hands it over. -/
structure EventBody where
  kind : EventKind
  index : Byte
  detail : Byte
deriving DecidableEq, Repr

/-- R140: an event record. -/
structure EventRec where
  seqNo : Byte
  body : EventBody
deriving DecidableEq, Repr

/-- R140: the event queue, oldest record first. -/
structure EventQueue where
  records : List EventRec
  lost : Nat
  nextSeq : Byte
deriving DecidableEq, Repr

/-! ### Timebase, interval timer and batch limit (ch. 8) -/

/-- R149: the millisecond divider. -/
structure Timebase where
  period : Nat
  tick : Nat
deriving DecidableEq, Repr

/-- R152: the interval timer. -/
structure IntervalTimer where
  run : Bool
  evEnable : Bool
  length : Half
  count : Half
  hold : Byte
  latch : Byte
deriving DecidableEq, Repr

/-- R159: BATCHLIMIT and its holding byte. -/
structure BatchLimit where
  value : Half
  hold : Byte
deriving DecidableEq, Repr

/-! ### Report link (ch. 9) -/

/-- R161: a report job; its count is the length of its list. -/
structure Job where
  tag : Byte
  periodic : Bool
  list : List (Fin 32)
deriving DecidableEq, Repr

/-- R164: a frame under way: its settings, bytes, cells begun, timeout count, and, for a DRIVEN frame, the level of
LCLK and the REFCLK periods to its next edge (R169). -/
structure Frame where
  followed : Bool
  rate : BitVec 2
  lsbFirst : Bool
  bytes : List Byte
  cells : Nat
  timeout : Option Nat
  lclkHigh : Bool
  wait : Nat
deriving DecidableEq, Repr

/-- R164: the link state. -/
inductive LinkState where
  | off
  | idle
  | ready (f : Frame)
  | sending (f : Frame)
deriving DecidableEq, Repr

/-- R175: the phase of the LINKSTATUS address. -/
inductive LsPhase where
  | state | tag
deriving DecidableEq, Repr

/-- R161–R175: the report link. -/
structure Link where
  jobs : List Job
  template : Option Job
  ctrl : Byte
  timeoutReg : Byte
  state : LinkState
  lsPhase : LsPhase
  tagLatch : Byte
deriving DecidableEq, Repr

/-! ### Host register window (ch. 10) -/

/-- R189, R190: one bit for each interrupt flag. -/
structure IrqBits where
  comp : Bool
  evt : Bool
  space : Bool
  quiet : Bool
deriving DecidableEq, Repr

/-- R179–R190: the state the window itself holds. -/
structure Window where
  staging : CmdRec
  submit : SubmitResult
  accSel : BitVec 5
  chSel : BitVec 3
  accBuf : Vector Byte 7
  chBuf : Vector Byte 7
  irqFlag : IrqBits
  irqEn : IrqBits
deriving DecidableEq, Repr

/-! ### The whole machine -/

/-- The machine's state. `pending` (the waiting commands) and `freeCount` (how many free choices were made, log 6) are
the model's own fields; every other field is the spec's. -/
structure State where
  entries : Vector Entry 32
  chans : Vector Channel 8
  schedPtr : Fin 8
  engine : Engine
  cmdQueue : List CmdRec
  seq : SeqState
  owed : Bool
  flags : FlagWord
  ring : List Completion
  batch : Batch
  events : EventQueue
  timebase : Timebase
  interval : IntervalTimer
  batchLimit : BatchLimit
  link : Link
  window : Window
  rstn : Bool
  busOut : Byte
  freeCount : Nat
  pending : List Instr
deriving DecidableEq, Repr

/-- The part never stops with a fault: the spec names none (INVENTORY.md, Faults), so there is no constructor. -/
inductive Fault where
deriving DecidableEq, Repr

/-- Why a command has no meaning in the model. -/
inductive Refusal where
  /-- Raised by an arm of `exec` for a command that has no meaning yet: safe. No arm answers with it. -/
  | notModelled (mnemonic : String)
deriving DecidableEq, Repr

/-! ### Named updates -/

/-- The store's entries replaced. -/
def State.withEntries (s : State) (x : Vector Entry 32) : State := { s with entries := x }
/-- The channels replaced. -/
def State.withChans (s : State) (x : Vector Channel 8) : State := { s with chans := x }
/-- The scheduler pointer replaced. -/
def State.withSchedPtr (s : State) (x : Fin 8) : State := { s with schedPtr := x }
/-- The engine replaced. -/
def State.withEngine (s : State) (x : Engine) : State := { s with engine := x }
/-- The command queue replaced. -/
def State.withCmdQueue (s : State) (x : List CmdRec) : State := { s with cmdQueue := x }
/-- The sequencer state replaced. -/
def State.withSeq (s : State) (x : SeqState) : State := { s with seq := x }
/-- The completion-owed marker replaced. -/
def State.withOwed (s : State) (x : Bool) : State := { s with owed := x }
/-- The flag word replaced. -/
def State.withFlags (s : State) (x : FlagWord) : State := { s with flags := x }
/-- The completion ring replaced. -/
def State.withRing (s : State) (x : List Completion) : State := { s with ring := x }
/-- The batch unit replaced. -/
def State.withBatch (s : State) (x : Batch) : State := { s with batch := x }
/-- The event queue replaced. -/
def State.withEvents (s : State) (x : EventQueue) : State := { s with events := x }
/-- The millisecond divider replaced. -/
def State.withTimebase (s : State) (x : Timebase) : State := { s with timebase := x }
/-- The interval timer replaced. -/
def State.withInterval (s : State) (x : IntervalTimer) : State := { s with interval := x }
/-- BATCHLIMIT replaced. -/
def State.withBatchLimit (s : State) (x : BatchLimit) : State := { s with batchLimit := x }
/-- The report link replaced. -/
def State.withLink (s : State) (x : Link) : State := { s with link := x }
/-- The window's own state replaced. -/
def State.withWindow (s : State) (x : Window) : State := { s with window := x }
/-- The RSTn level replaced. -/
def State.withRstn (s : State) (x : Bool) : State := { s with rstn := x }
/-- The byte last driven on the data bus replaced. -/
def State.withBusOut (s : State) (x : Byte) : State := { s with busOut := x }
/-- The count of free choices replaced. -/
def State.withFreeCount (s : State) (x : Nat) : State := { s with freeCount := x }
/-- The queue of waiting commands replaced. -/
def State.withPending (s : State) (x : List Instr) : State := { s with pending := x }

/-! ### Power-on values -/

/-- R18. -/
def Entry.powerOn : Entry :=
  { value := ⟨false, 0⟩, attr := ⟨12, .wrap, none, false⟩, threshold := none, side := .below, held := false }

/-- R43, R63: the power-on channel of a given number. -/
def Channel.powerOn (n : Fin 8) : Channel :=
  { record := ⟨false, .rising, 0, 1, 1, .add, ⟨n.val, by omega⟩⟩
    input := .disabled, level := false, qcount := 0, divCount := 1, units := 0, dropped := 0
    overrun := false, rate := 0, rateLatch := 0 }

/-- Operands of zeros (R179). -/
def zeroOperands : Operands := ⟨0, 0, 0, 0, 0, 0, 0, 0, 0, 0, 0⟩

/-- R77: the cleared flag word. -/
def FlagWord.cleared : FlagWord := ⟨false, false, false, false⟩

/-- No interrupt flag, or no enable. -/
def IrqBits.cleared : IrqBits := ⟨false, false, false, false⟩

/-- R146. -/
def EventQueue.empty : EventQueue := ⟨[], 0, 0⟩

/-- R160. -/
def IntervalTimer.cleared : IntervalTimer := ⟨false, false, 0, 0, 0, 0⟩

/-- R176, R177. -/
def Link.cleared : Link := ⟨[], none, 0, 0, .off, .state, 0⟩

/-- R191, R193. -/
def Window.cleared : Window :=
  { staging := ⟨0, zeroOperands⟩, submit := .none, accSel := 0, chSel := 0
    accBuf := Vector.replicate 7 0, chBuf := Vector.replicate 7 0
    irqFlag := IrqBits.cleared, irqEn := IrqBits.cleared }

/-- The machine right after power-on reset (R18, R40, R63, R109, R131, R146, R151, R160, R177, R193).
RSTn high and a bus byte of 00h are the model's choices (log 9, log 10). -/
def State.reset : State :=
  { entries := Vector.replicate 32 Entry.powerOn
    chans := Vector.ofFn Channel.powerOn
    schedPtr := 0
    engine := ⟨none, .command, false, false⟩
    cmdQueue := []
    seq := .idle
    owed := false
    flags := FlagWord.cleared
    ring := []
    batch := ⟨.none, .abort, [], none, false, false⟩
    events := EventQueue.empty
    timebase := ⟨0, 0⟩
    interval := IntervalTimer.cleared
    batchLimit := ⟨0, 0⟩
    link := Link.cleared
    window := Window.cleared
    rstn := true
    busOut := 0
    freeCount := 0
    pending := [] }

end Sys2Proof.Machine
end

