-- ==== Sys2Proof/Machine/Ops.lean ====
section
/-! DEFINITION. The operations shared by the commands: decimal arithmetic (R3, R28), the fit (R10–R12), chains and the
chain write (R14, R15), committed values (R9), the event queue's append (R142), the interrupt flags (R105, R145), the
threshold evaluation (R134), and the free order of simultaneous events (log 6). -/

namespace Sys2Proof.Machine

/-! ### Decimal values -/

/-- R3: a sign and a magnitude, with a zero magnitude made positive. -/
def Dec.make (neg : Bool) (mag : Nat) : Dec := ⟨neg && mag != 0, mag⟩

/-- +0. -/
def Dec.zero : Dec := ⟨false, 0⟩

/-- R28: the sign reversed. -/
def Dec.flip (d : Dec) : Dec := Dec.make (!d.neg) d.mag

/-- R28: the exact signed sum of two terms. -/
def Dec.add (a b : Dec) : Dec :=
  if a.neg = b.neg then Dec.make a.neg (a.mag + b.mag)
  else if b.mag ≤ a.mag then Dec.make a.neg (a.mag - b.mag)
  else Dec.make b.neg (b.mag - a.mag)

/-- R28: the exact signed difference. -/
def Dec.sub (a b : Dec) : Dec := Dec.add a b.flip

/-- The integer a value stands for. -/
def Dec.toInt (d : Dec) : Int := if d.neg then -(d.mag : Int) else (d.mag : Int)

/-- R7, R34: signed comparison, less than. -/
def Dec.lt (a b : Dec) : Bool := decide (a.toInt < b.toInt)

/-- R34: signed comparison, equal; two zeros are equal whatever their signs (R3). -/
def Dec.same (a b : Dec) : Bool := decide (a.toInt = b.toInt)

/-- Digit i of a magnitude, digit 0 the least significant. -/
def Dec.digit (d : Dec) (i : Nat) : Nat := d.mag / 10 ^ i % 10

/-- One byte of packed digits: the pair of digits 2i+1 and 2i, the more significant in bits 7 to 4. -/
def Dec.digitPair (d : Dec) (i : Nat) : Byte := BitVec.ofNat 8 (d.digit (2 * i + 1) * 16 + d.digit (2 * i))

/-- The twelve digits packed two per byte, most significant pair first. -/
def Dec.packed (d : Dec) : List Byte := [d.digitPair 5, d.digitPair 4, d.digitPair 3, d.digitPair 2, d.digitPair 1, d.digitPair 0]

/-- The sign-and-width byte: sign in bit 7, held marker in bit 6, width in bits 3–0. -/
def signWidth (d : Dec) (held : Bool) (width : Nat) : Byte :=
  BitVec.ofNat 8 ((if d.neg then 128 else 0) + (if held then 64 else 0) + width % 16)

/-! ### The fit -/

/-- R10–R12: the exact result r made a value of an entry with attributes a. -/
def fit (a : Attr) (r : Dec) : Fit :=
  if r.mag < 10 ^ a.width then ⟨.inRange, Dec.make r.neg r.mag, none⟩
  else match a.policy with
    | .wrap => ⟨.wrapped, Dec.make r.neg (r.mag % 10 ^ a.width), some (Dec.make r.neg (r.mag / 10 ^ a.width))⟩
    | .saturate => ⟨.saturated, Dec.make r.neg (10 ^ a.width - 1), none⟩

/-! ### The store -/

/-- The store with entry i replaced. -/
def setEntry (es : Vector Entry 32) (i : Fin 32) (e : Entry) : Vector Entry 32 := es.set i.val e i.isLt

/-- The channels with channel i replaced. -/
def setChan (cs : Vector Channel 8) (i : Fin 8) (c : Channel) : Vector Channel 8 := cs.set i.val c i.isLt

/-- R14: the chain of entry i, followed for at most `fuel` entries. -/
def chainFrom : Nat → Vector Entry 32 → Fin 32 → List (Fin 32)
  | 0, _, _ => []
  | fuel + 1, es, i =>
    i :: match es[i].attr.link with
      | some j => chainFrom fuel es j
      | none => []

/-- R14: the chain of entry i. -/
def chain (es : Vector Entry 32) (i : Fin 32) : List (Fin 32) := chainFrom Config.chainFuel es i

/-- R55: some entry of the chain of i is held. -/
def chainHeld (es : Vector Entry 32) (i : Fin 32) : Bool := (chain es i).any fun j => es[j].held

/-- R114: how many entries of the chain of i are not held. -/
def chainUnheld (es : Vector Entry 32) (i : Fin 32) : Nat := ((chain es i).filter fun j => !es[j].held).length

/-- One step of a chain write: entry i fitted with r. -/
def fitEntry (es : Vector Entry 32) (i : Fin 32) (r : Dec) : Fit × Written × Vector Entry 32 :=
  let e := es[i]
  let f := fit e.attr r
  (f, ⟨i, f.outcome, e.value⟩, setEntry es i { e with value := f.value })

/-- R15: the chain write of the exact result r to entry i, for at most `fuel` steps: the entries written, in chain
order, and the store after it. -/
def chainWriteFrom : Nat → Vector Entry 32 → Fin 32 → Dec → List Written × Vector Entry 32
  | 0, es, _, _ => ([], es)
  | fuel + 1, es, i, r =>
    let (f, w, es1) := fitEntry es i r
    match f.carry, es[i].attr.link with
    | some c, some j =>
      let (ws, es2) := chainWriteFrom fuel es1 j (Dec.add es1[j].value c)
      (w :: ws, es2)
    | _, _ => ([w], es1)

/-- R15: the chain write. -/
def chainWrite (es : Vector Entry 32) (i : Fin 32) (r : Dec) : List Written × Vector Entry 32 :=
  chainWriteFrom Config.chainFuel es i r

/-- R32, R33: a write of the primary target only. -/
def singleWrite (es : Vector Entry 32) (i : Fin 32) (r : Dec) : List Written × Vector Entry 32 :=
  let (_, w, es1) := fitEntry es i r
  ([w], es1)

/-- R111: the prior value in the undo record of entry i, if there is one. -/
def priorOf (undo : List UndoRec) (i : Fin 32) : Option Dec :=
  (undo.find? fun u => u.index == i).map fun u => u.prior

/-- R9: the committed value of entry i. -/
def committed (s : State) (i : Fin 32) : Dec :=
  if s.entries[i].held then (priorOf s.batch.undo i).getD s.entries[i].value else s.entries[i].value

/-! ### Interrupt flags and the event queue -/

/-- The interrupt flags replaced. -/
def State.withIrqFlag (s : State) (f : IrqBits) : State := s.withWindow { s.window with irqFlag := f }

/-- R105: COMP set. -/
def setComp (s : State) : State := s.withIrqFlag { s.window.irqFlag with comp := true }

/-- R145: EVT set. -/
def setEvt (s : State) : State := s.withIrqFlag { s.window.irqFlag with evt := true }

/-- R105: SPACE set. -/
def setSpace (s : State) : State := s.withIrqFlag { s.window.irqFlag with space := true }

/-- R105: QUIET set. -/
def setQuiet (s : State) : State := s.withIrqFlag { s.window.irqFlag with quiet := true }

/-- R142: a record placed at the tail with the next sequence number, and EVT set. -/
def placeEvent (b : EventBody) (s : State) : State :=
  setEvt (s.withEvents { s.events with
    records := s.events.records ++ [⟨s.events.nextSeq, b⟩], nextSeq := s.events.nextSeq + 1 })

/-- R142: an event appended, or discarded and counted when the queue is full. -/
def appendEvent (b : EventBody) (s : State) : State :=
  if s.events.records.length < Config.eventDepth then placeEvent b s
  else s.withEvents { s.events with lost := min 255 (s.events.lost + 1) }

/-- An accumulator or channel number, or a count, as a byte. -/
def byteOf (n : Nat) : Byte := BitVec.ofNat 8 n

/-! ### Threshold monitor -/

/-- R134: the side on which a value stands. -/
def sideOf (t : Threshold) (v : Dec) : Side := if v.lt t.value then .below else .atOrAbove

/-- R135: whether a change to the given side passes the filter. -/
def filterPasses : Filter → Side → Bool
  | .up, .atOrAbove => true
  | .up, .below => false
  | .down, .below => true
  | .down, .atOrAbove => false
  | .both, _ => true

/-- R134: the THRESHOLD event of a change of entry i to the given side. -/
def thresholdEvent (i : Fin 32) (d : Side) : EventBody :=
  ⟨.threshold, byteOf i.val, match d with | .atOrAbove => 1 | .below => 2⟩

/-- R134: a committed write of entry i evaluated against its threshold: the store with the new side, and the event. -/
def evaluate (es : Vector Entry 32) (i : Fin 32) : Vector Entry 32 × Option EventBody :=
  match es[i].threshold with
  | none => (es, none)
  | some t =>
    let d := sideOf t es[i].value
    if d = es[i].side then (es, none)
    else (setEntry es i { es[i] with side := d },
      if filterPasses t.filter d then some (thresholdEvent i d) else none)

/-- R136: several entries evaluated in order: the store after it and the events in order. -/
def evaluateAll : Vector Entry 32 → List (Fin 32) → Vector Entry 32 × List EventBody
  | es, [] => (es, [])
  | es, i :: is =>
    let (es1, ev) := evaluate es i
    let (es2, evs) := evaluateAll es1 is
    (es2, ev.toList ++ evs)

/-! ### Events of one instant in a free order -/

/-- Several threads of actions of one instant: each thread's own actions in its order, the threads in a free order
(log 6). The free value is read only while two or more threads have actions left. -/
def interleave {α : Type} (run : α → State → State) : Nat → List (List α) → State → State
  | 0, _, s => s
  | fuel + 1, threads, s =>
    match threads.filter fun t => !t.isEmpty with
    | [] => s
    | [t] => t.foldl (fun s a => run a s) s
    | live =>
      let k := Config.freePick s.freeCount % live.length
      match live[k]? with
      | some (a :: rest) => interleave run fuel (live.set k rest) (run a (s.withFreeCount (s.freeCount + 1)))
      | _ => s

/-- How many actions the threads hold. -/
def actionCount {α : Type} (threads : List (List α)) : Nat := (threads.map List.length).sum

/-- All actions of the threads, run in a free order. -/
def runThreads {α : Type} (run : α → State → State) (threads : List (List α)) (s : State) : State :=
  interleave run (actionCount threads + 1) threads s

/-- R144: events of several blocks appended in a free order that keeps each block's own. -/
def appendThreads (threads : List (List EventBody)) (s : State) : State := runThreads appendEvent threads s

end Sys2Proof.Machine
end

