-- ==== Sys2Proof/Machine/Flags.lean ====
section
/-! DEFINITION. The flag word (R36, R34, R77, R183), the conditions (R68) and the bytes of the interrupt registers
(R189, R190). -/

namespace Sys2Proof.Machine

/-- A bit as a number. -/
def bit (b : Bool) (n : Nat) : Nat := if b then 2 ^ n else 0

/-- R183: the flag word as a byte: N in bit 3, Z in bit 2, C in bit 1, V in bit 0. -/
def FlagWord.toByte (f : FlagWord) : Byte := byteOf (bit f.n 3 + bit f.z 2 + bit f.c 1 + bit f.v 0)

/-- R36: the result flags of a value and the outcome of its fit. -/
def resultFlags (v : Dec) (o : FitOutcome) : FlagWord :=
  ⟨v.neg, v.mag == 0, o == .wrapped, o == .saturated⟩

/-- R34: the flags of a comparison of target and source. -/
def compareFlags (target source : Dec) : FlagWord := ⟨target.lt source, target.same source, false, false⟩

/-- R68: the condition of a code tested on the flag word. Codes 09h and above are malformed (R69) and never queued. -/
def condHolds (code : Byte) (f : FlagWord) : Bool :=
  match code.toNat with
  | 0 => true
  | 1 => f.z
  | 2 => !f.z
  | 3 => f.n
  | 4 => !f.n
  | 5 => f.c
  | 6 => !f.c
  | 7 => f.v
  | 8 => !f.v
  | _ => false

/-- R189: the interrupt bits as a byte. -/
def IrqBits.toByte (f : IrqBits) : Byte := byteOf (bit f.comp 0 + bit f.evt 1 + bit f.space 2 + bit f.quiet 3)

/-- R190: the interrupt bits of a byte; bits 7 to 4 are ignored. -/
def IrqBits.ofByte (b : Byte) : IrqBits := ⟨b.getLsbD 0, b.getLsbD 1, b.getLsbD 2, b.getLsbD 3⟩

/-- R189: each flag whose bit is written 1 cleared. -/
def IrqBits.clearBy (f : IrqBits) (b : Byte) : IrqBits :=
  ⟨f.comp && !b.getLsbD 0, f.evt && !b.getLsbD 1, f.space && !b.getLsbD 2, f.quiet && !b.getLsbD 3⟩

/-- R190: IRQn is driven low while a flag is set together with its enable. -/
def irqAsserted (w : Window) : Bool :=
  (w.irqFlag.comp && w.irqEn.comp) || (w.irqFlag.evt && w.irqEn.evt) || (w.irqFlag.space && w.irqEn.space)
    || (w.irqFlag.quiet && w.irqEn.quiet)

/-- R76: the code of a status. -/
def Status.code : Status → Byte
  | .done => 0x01
  | .skipped => 0x02
  | .void => 0x03
  | .badState => 0x10
  | .inBatch => 0x11
  | .undoFull => 0x12
  | .attrInvalid => 0x13
  | .channelBusy => 0x14
  | .reportFull => 0x15

/-- R94: the byte that SUBMIT reads. -/
def SubmitResult.code : SubmitResult → Byte
  | .none => 0x00
  | .accepted => 0x01
  | .queueFull => 0x02
  | .malformed => 0x03

/-- R141: the code of an event kind. -/
def EventKind.code : EventKind → Byte
  | .threshold => 0x01
  | .wrap => 0x02
  | .saturated => 0x03
  | .overrun => 0x04
  | .batchVoid => 0x05
  | .interval => 0x06
  | .reportDone => 0x07
  | .reportAborted => 0x08
  | .reportTimeout => 0x09
  | .reportSkipped => 0x0A
  | .lost => 0x0B

end Sys2Proof.Machine
end

