-- ==== Sys2Proof/Machine/Operands.lean ====
section
/-! DEFINITION. Every operand form of a command record: codes (sections 4.7 to 4.11), the immediate (R66), sources
(R78), the fields of SETATTR (R83), SETTHRESH (R84), CHANCONFIG (R85), the report lists (R90, R91), and the static
checks made at submission (R69). -/

namespace Sys2Proof

open Machine

/-- The code of each command. -/
def opcodeByte : Opcode → Byte
  | .mark => 0x00
  | .add => 0x01
  | .sub => 0x02
  | .move => 0x03
  | .negate => 0x04
  | .clear => 0x05
  | .compare => 0x06
  | .setattr => 0x10
  | .setthresh => 0x11
  | .chanconfig => 0x12
  | .chanclear => 0x13
  | .batchOpen => 0x20
  | .batchCommit => 0x21
  | .batchAbort => 0x22
  | .report => 0x30
  | .reportPeriodic => 0x31

/-- All commands of the host. -/
def allOpcodes : List Opcode :=
  [.mark, .add, .sub, .move, .negate, .clear, .compare, .setattr, .setthresh, .chanconfig, .chanclear,
    .batchOpen, .batchCommit, .batchAbort, .report, .reportPeriodic]

/-- R69: the command of a code byte, if it is one of the sixteen. -/
def opcodeOf (b : Byte) : Option Opcode := allOpcodes.find? fun op => opcodeByte op == b

/-- The record of a command with its operands. -/
def recordOf (op : Opcode) (o : Operands) : CmdRec := ⟨opcodeByte op, o⟩

/-! ### Fields -/

/-- The upper four bits of a byte. -/
def hiNibble (b : Byte) : Nat := b.toNat / 16

/-- The lower four bits of a byte. -/
def loNibble (b : Byte) : Nat := b.toNat % 16

/-- A byte of two packed digits as a number. -/
def pairValue (b : Byte) : Nat := hiNibble b * 10 + loNibble b

/-- R69: both nibbles are decimal digits. -/
def isPair (b : Byte) : Bool := hiNibble b ≤ 9 && loNibble b ≤ 9

/-- R69: the byte names an accumulator, 00h to 1Fh. -/
def isAcc (b : Byte) : Bool := b.toNat < 32

/-- The accumulator a byte names. -/
def accOf (b : Byte) : Fin 32 := ⟨b.toNat % 32, Nat.mod_lt _ (by omega)⟩

/-- The channel a byte names. -/
def chanOf (b : Byte) : Fin 8 := ⟨b.toNat % 8, Nat.mod_lt _ (by omega)⟩

/-- I1 to I6. -/
def Operands.digitBytes (o : Operands) : List Byte := [o.i1, o.i2, o.i3, o.i4, o.i5, o.i6]

/-- The magnitude of packed digit bytes, most significant pair first. -/
def packedValue (bs : List Byte) : Nat := bs.foldl (fun n b => n * 100 + pairValue b) 0

/-- R66: the immediate as a signed value; a zero magnitude is +0. -/
def Operands.immediate (o : Operands) : Dec := Dec.make (o.i0.getLsbD 7) (packedValue o.digitBytes)

/-- R66, R78: the source is the immediate. -/
def Operands.sourceIsImmediate (o : Operands) : Bool := o.b == 0x80

/-- R78, R27: the source value, read from the store or taken from the immediate. -/
def Operands.source (o : Operands) (es : Vector Entry 32) : Dec :=
  if o.sourceIsImmediate then o.immediate else es[accOf o.b].value

/-- The target or entry that A names. -/
def Operands.target (o : Operands) : Fin 32 := accOf o.a

/-- R83: the attribute record of a SETATTR. -/
def Operands.attr (o : Operands) : Attr :=
  { width := loNibble o.b
    policy := if o.b.getLsbD 4 then .saturate else .wrap
    link := if o.i1 = 0xFF then none else some (accOf o.i1)
    notifyWrap := o.b.getLsbD 5 }

/-- R84: the threshold record that a SETTHRESH installs; none for a removal. -/
def Operands.threshold (o : Operands) : Option Threshold :=
  match o.b.toNat with
  | 1 => some ⟨o.immediate, .up⟩
  | 2 => some ⟨o.immediate, .down⟩
  | 3 => some ⟨o.immediate, .both⟩
  | _ => none

/-- R85: the edge code in B bits 2–1. -/
def Operands.edgeCode (o : Operands) : Nat := o.b.toNat / 2 % 4

/-- R85: the weight in I2, I3. -/
def Operands.weight (o : Operands) : Nat := packedValue [o.i2, o.i3]

/-- R85: the channel record of a CHANCONFIG. -/
def Operands.chanRecord (o : Operands) : ChanRecord :=
  { enable := o.b.getLsbD 0
    edge := match o.edgeCode with | 1 => .rising | 2 => .falling | _ => .both
    qualify := loNibble o.i0
    divider := o.i1.toNat + 1
    weight := o.weight
    dir := if o.b.getLsbD 3 then .subtract else .add
    target := accOf o.i4 }

/-- R90: the bytes from which a report list is taken, in order. -/
def Operands.listBytes (o : Operands) : List Byte := [o.b, o.i0, o.i1, o.i2, o.i3, o.i4, o.i5, o.i6]

/-- R90, R91: the report list of count A. -/
def Operands.reportList (o : Operands) : List (Fin 32) := (o.listBytes.take o.a.toNat).map accOf

/-! ### Static checks (R69) -/

/-- The immediate digits I1 to I6 are decimal. -/
def Operands.digitsOk (o : Operands) : Bool := o.digitBytes.all isPair

/-- R78: the source byte is well formed, with its digits when it names the immediate. -/
def Operands.sourceOk (o : Operands) : Bool := isAcc o.b || (o.sourceIsImmediate && o.digitsOk)

/-- R90: the list bytes within the count are accumulator indices. -/
def Operands.listOk (o : Operands) : Bool := (o.listBytes.take o.a.toNat).all isAcc

/-- R69: the form of the operands that each command uses. -/
def operandsOk : Opcode → Operands → Bool
  | .mark, _ => true
  | .add, o | .sub, o | .move, o | .compare, o => isAcc o.a && o.sourceOk
  | .negate, o | .clear, o => isAcc o.a
  | .setattr, o =>
    isAcc o.a && !o.b.getLsbD 6 && !o.b.getLsbD 7 && decide (1 ≤ loNibble o.b) && decide (loNibble o.b ≤ 12)
      && (o.i1 == 0xFF || isAcc o.i1)
  | .setthresh, o => isAcc o.a && decide (o.b.toNat ≤ 3) && (o.b == 0x00 || o.digitsOk)
  | .chanconfig, o =>
    decide (o.a.toNat < 8) && hiNibble o.b == 0 && o.edgeCode != 0 && isPair o.i2 && isPair o.i3 && o.weight != 0
      && isAcc o.i4
  | .chanclear, o => decide (o.a.toNat < 8)
  | .batchOpen, _ | .batchCommit, _ | .batchAbort, _ => true
  | .report, o => decide (1 ≤ o.a.toNat) && decide (o.a.toNat ≤ 8) && o.listOk
  | .reportPeriodic, o => decide (o.a.toNat ≤ 8) && o.listOk

/-- R69: a record is malformed when its code is unknown, its condition is 09h or above, or an operand is ill formed. -/
def malformed (r : CmdRec) : Bool :=
  match opcodeOf r.code with
  | none => true
  | some op => decide (9 ≤ r.ops.cond.toNat) || !operandsOk op r.ops

end Sys2Proof
end

