-- ==== Sys2Proof/Machine/Engine.lean ====
section
/-! DEFINITION. Eligibility and the posting scheduler (R55–R59), the engine's operations (R26–R36) and its arbiter
(R22–R25). -/

namespace Sys2Proof.Machine

/-! ### Engine views -/

/-- R21: the three engine states. -/
inductive EngineState where
  | free | busyPost | busyCommand
deriving DecidableEq, Repr

/-- R21: the side from which an operation came. -/
def OpKind.arbSide : OpKind → ArbSide
  | .post .. => .post
  | _ => .command

/-- R21: the engine state. -/
def engineState (e : Engine) : EngineState :=
  match e.inFlight with
  | none => .free
  | some op => match op.kind.arbSide with
    | .post => .busyPost
    | .command => .busyCommand

/-- R21: no operation is in flight. -/
def engineFree (s : State) : Bool := s.engine.inFlight.isNone

/-! ### Eligibility and requests -/

/-- R55: the channel has pending units and no entry of its target's chain is held. -/
def eligible (s : State) (ch : Fin 8) : Bool :=
  decide (0 < s.chans[ch].units) && !chainHeld s.entries s.chans[ch].record.target

/-- All channels, in order. -/
def allChans : List (Fin 8) := [0, 1, 2, 3, 4, 5, 6, 7]

/-- R56: some channel is eligible. -/
def anyEligible (s : State) : Bool := allChans.any (eligible s)

/-- The post-side request set to a level. -/
def setPostReq (x : Bool) (s : State) : State := s.withEngine { s.engine with postReq := x }

/-- The command-side request set to a level. -/
def setCmdReq (x : Bool) (s : State) : State := s.withEngine { s.engine with cmdReq := x }

/-- R56: the request asserted while some channel is eligible and withdrawn otherwise. -/
def refreshPostReq (s : State) : State := setPostReq (anyEligible s) s

/-- R57: the search order from the pointer upward, 7 wrapping to 0. -/
def searchOrder (p : Fin 8) : List (Fin 8) := allChans.map fun k => p + k

/-- R57: the first eligible channel in search order. -/
def chooseChan (s : State) : Option (Fin 8) := (searchOrder s.schedPtr).find? (eligible s)

/-! ### Grants -/

/-- R26: an operation started for a side. -/
def startOp (op : Operation) (s : State) : State :=
  s.withEngine { s.engine with inFlight := some op, lastGranted := op.kind.arbSide }

/-- R57: one unit taken from the channel, which becomes the post in flight with the record's present values. -/
def startPost (ch : Fin 8) (s : State) : State :=
  let c := s.chans[ch]
  refreshPostReq <| startOp ⟨.post ch c.record.weight c.record.dir, c.record.target⟩ <|
    (s.withChans (setChan s.chans ch { c with units := c.units - 1 })).withSchedPtr (ch + 1)

/-- R27, R78–R81: the operation of an arithmetic command, its source read at the grant. -/
def arithOp (op : Opcode) (o : Operands) (es : Vector Entry 32) : Option Operation :=
  match op with
  | .add => some ⟨.add (o.source es), o.target⟩
  | .sub => some ⟨.sub (o.source es), o.target⟩
  | .move => some ⟨.move (o.source es), o.target⟩
  | .negate => some ⟨.negate, o.target⟩
  | .clear => some ⟨.clear, o.target⟩
  | .compare => some ⟨.compare (o.source es), o.target⟩
  | _ => none

/-- R26: the command side granted: the unwinder's restore while the batch unwinds, the waiting command otherwise. -/
def grantCommand (s : State) : State :=
  let s := setCmdReq false s
  if s.batch.phase = .unwinding then
    match s.batch.undo with
    | u :: _ => startOp ⟨.restore u.prior, u.index⟩ s
    | [] => s
  else match s.seq with
    | .waiting r =>
      match (opcodeOf r.code).bind fun op => arithOp op r.ops s.entries with
      | some op => startOp op (s.withSeq (.executing r))
      | none => s
    | _ => s

/-- R25, R57, R59: the post side granted, or the grant passed, after which a waiting command side is granted. -/
def grantPost (s : State) : State :=
  match chooseChan s with
  | some ch => startPost ch s
  | none =>
    let s := setPostReq false s
    if s.engine.cmdReq then grantCommand s else s

/-- R24: the arbiter's decision at an engine that is FREE. -/
def arbitrate (s : State) : State :=
  match s.engine.postReq, s.engine.cmdReq with
  | false, false => s
  | true, false => grantPost s
  | false, true => grantCommand s
  | true, true => match s.engine.lastGranted with
    | .post => grantCommand s
    | .command => grantPost s

/-- R23: requests decided on arrival when the engine is FREE; they wait when it is busy. -/
def arrive (s : State) : State := if engineFree s then arbitrate s else s

/-- R56, R23: the scheduler's request brought up to date and offered to the arbiter. -/
def schedule (s : State) : State := arrive (refreshPostReq s)

/-! ### Operations -/

/-- R27: a post's signed weight. -/
def signedWeight (weight : Nat) (dir : Direction) : Dec := Dec.make (dir == .subtract) weight

/-- R29–R35: the entries written by an operation at its completion, in chain order, and the store after it. -/
def opWrites (op : Operation) (es : Vector Entry 32) : List Written × Vector Entry 32 :=
  let v := es[op.target].value
  match op.kind with
  | .post _ w d => chainWrite es op.target (Dec.add v (signedWeight w d))
  | .add src => chainWrite es op.target (Dec.add v src)
  | .sub src => chainWrite es op.target (Dec.sub v src)
  | .move src => chainWrite es op.target src
  | .negate => singleWrite es op.target v.flip
  | .clear => singleWrite es op.target Dec.zero
  | .compare _ => ([], es)
  | .restore p => ([], setEntry es op.target { es[op.target] with value := p })

/-- R34, R36: the result flags of an operation, from the primary target after its completion. -/
def opFlags (op : Operation) (before after : Vector Entry 32) (ws : List Written) : FlagWord :=
  match op.kind with
  | .compare src => compareFlags before[op.target].value src
  | _ => resultFlags after[op.target].value ((ws.head?.map fun w => w.outcome).getD .inRange)

/-- R37 step 3: the operation in flight becomes absent. -/
def freeEngine (s : State) : State := s.withEngine { s.engine with inFlight := none }

/-! ### Units -/

/-- R49, R50: a unit counted at a channel: pending raised, or the unit dropped. -/
def countUnit (c : Channel) : Channel :=
  if c.units < 255 then { c with units := c.units + 1, rate := min 65535 (c.rate + 1) }
  else { c with dropped := min 65535 (c.dropped + 1), overrun := true, rate := min 65535 (c.rate + 1) }

/-- R50: whether the unit raises OVERRUN: it is dropped while the overrun flag is clear. -/
def raisesOverrun (c : Channel) : Bool := !decide (c.units < 255) && !c.overrun

/-- R49, R50, R56: a unit arrives at a channel whose divider has been reloaded. -/
def unitArrives (ch : Fin 8) (s : State) : State :=
  let c := s.chans[ch]
  let s1 := s.withChans (setChan s.chans ch (countUnit c))
  let s2 := if raisesOverrun c then appendEvent ⟨.overrun, byteOf ch.val, 0⟩ s1 else s1
  schedule s2

end Sys2Proof.Machine
end

