-- ==== Sys2Proof/Machine/BatchUnit.lean ====
section
/-! DEFINITION. The batch unit (ch. 6): the pre-check (R114), the pushes of a completion (R115), the start of an
unwinding (R117, R121, R128) and its end (R119). -/

namespace Sys2Proof.Machine

/-- R114: the chain of the target has more entries not held than the undo stack has free places. -/
def undoShort (s : State) (target : Fin 32) : Bool :=
  decide (Config.undoDepth - s.batch.undo.length < chainUnheld s.entries target)

/-- R115: the entries written pushed in chain order, each that is not yet held, and marked held. -/
def pushWritten : List Written → Vector Entry 32 → List UndoRec → Vector Entry 32 × List UndoRec
  | [], es, undo => (es, undo)
  | w :: ws, es, undo =>
    if es[w.index].held then pushWritten ws es undo
    else pushWritten ws (setEntry es w.index { es[w.index] with held := true }) (⟨w.index, w.prior⟩ :: undo)

/-- R119: the batch state in which an unwinding ends. -/
def endPhase : UnwindCause → BatchPhase
  | .abort => .none
  | .reset => .none
  | .void => .void

/-- R119: the unwinding ends. -/
def endUnwind (s : State) : State := s.withBatch { s.batch with phase := endPhase s.batch.cause }

/-- R118, R119: the unwinder asks for the restore of the newest record, or ends the unwinding of an empty stack. -/
def beginUnwind (s : State) : State :=
  match s.batch.undo with
  | [] => endUnwind s
  | _ :: _ => arrive (setCmdReq true s)

/-- R117, R121, R128: the timer stopped and the batch state UNWINDING with a cause. -/
def enterUnwinding (cause : UnwindCause) (s : State) : State :=
  s.withBatch { s.batch with phase := .unwinding, cause := cause, timer := none }

/-- R121: the void's event appended and the batch state UNWINDING; its detail is 1 for UNDO_FULL, 2 for EXPIRED. -/
def openVoid (detail : Byte) (s : State) : State :=
  enterUnwinding .void (appendEvent ⟨.batchVoid, 0, detail⟩ s)

/-- R8, R116: every held marker cleared. -/
def clearHeld (es : Vector Entry 32) : Vector Entry 32 := es.map fun e => { e with held := false }

end Sys2Proof.Machine
end

