-- ==== Sys2Proof/Machine/ReportLink.lean ====
section
/-! DEFINITION. The report link (ch. 9): frames (R165–R168), their ends (R171, R173, R174), the job queue (R161), the
timeout (R172) and the link's views (R175). -/

namespace Sys2Proof.Machine

/-! ### Link control fields (R163) -/

/-- LINKCTRL bit 0. -/
def ctrlEnable (c : Byte) : Bool := c.getLsbD 0

/-- LINKCTRL bit 1: FOLLOWED mode. -/
def ctrlFollowed (c : Byte) : Bool := c.getLsbD 1

/-- LINKCTRL bits 3–2. -/
def ctrlRate (c : Byte) : BitVec 2 := c.extractLsb' 2 2

/-- LINKCTRL bit 4: LSB-first. -/
def ctrlLsbFirst (c : Byte) : Bool := c.getLsbD 4

/-- R163, R169: the REFCLK periods of half a bit cell. -/
def halfCell (rate : BitVec 2) : Nat :=
  match rate.toNat with
  | 0 => 1
  | 1 => 2
  | 2 => 4
  | _ => 16

/-! ### Frames -/

/-- R167: the sum of bytes modulo 256. -/
def byteSum (bs : List Byte) : Byte := bs.foldl (· + ·) 0

/-- R166, R167: the eight bytes of one list entry: index, sign and width, six digit bytes of the committed value. -/
def frameEntry (s : State) (i : Fin 32) : List Byte :=
  let v := committed s i
  byteOf i.val :: signWidth v false s.entries[i].attr.width :: v.packed

/-- R167: the bytes of a frame behind its header, without the check byte. -/
def frameBody (s : State) (j : Job) : List Byte :=
  j.tag :: byteOf ((if j.periodic then 128 else 0) + j.list.length) :: j.list.flatMap (frameEntry s)

/-- R167: the bytes of a job's frame, from the snapshot of this instant. -/
def frameBytes (s : State) (j : Job) : List Byte :=
  let body := frameBody s j
  0xD4 :: body ++ [0 - byteSum body]

/-- R168: the number of bit cells of a frame. -/
def frameCells (f : Frame) : Nat := 8 * f.bytes.length

/-- R168: the bit of cell k, counted from 0. -/
def cellBit (f : Frame) (k : Nat) : Bool :=
  let b := f.bytes.getD (k / 8) 0
  if f.lsbFirst then b.getLsbD (k % 8) else b.getLsbD (7 - k % 8)

/-- R172: the timeout count loaded from LINKTIMEOUT: running from 1 to 255, stopped at 0. -/
def timeoutLoad (l : Link) : Option Nat := if l.timeoutReg = 0 then none else some l.timeoutReg.toNat

/-- R165: the frame of a job, its settings copied from LINKCTRL; `wait` is the REFCLK periods to the first falling
edge of a DRIVEN frame (R169). -/
def newFrame (s : State) (j : Job) (wait : Nat) : Frame :=
  let c := s.link.ctrl
  { followed := ctrlFollowed c, rate := ctrlRate c, lsbFirst := ctrlLsbFirst c
    bytes := frameBytes s j, cells := 0
    timeout := if ctrlFollowed c then timeoutLoad s.link else none
    lclkHigh := true, wait := wait }

/-- R165: a frame starts when the link is IDLE and a job is queued. -/
def tryStart (wait : Nat) (s : State) : State :=
  match s.link.state, s.link.jobs with
  | .idle, j :: _ =>
    let f := newFrame s j wait
    s.withLink { s.link with state := if f.followed then .ready f else .sending f }
  | _, _ => s

/-- R161, R165: a job appended at the tail of the report queue. -/
def appendJob (j : Job) (s : State) : State :=
  tryStart 1 (s.withLink { s.link with jobs := s.link.jobs ++ [j] })

/-- R161: the report queue holds its 8 jobs. -/
def reportFull (s : State) : Bool := decide (Config.reportDepth ≤ s.link.jobs.length)

/-- The frame under way, if there is one. -/
def LinkState.frame : LinkState → Option Frame
  | .ready f => some f
  | .sending f => some f
  | _ => none

/-- R171, R173, R174: the head job removed with the event of its outcome, and the link left in a state. -/
def dropHead (kind : EventKind) (detail : Job → Byte) (after : LinkState) (s : State) : State :=
  match s.link.jobs with
  | j :: rest =>
    appendEvent ⟨kind, j.tag, detail j⟩ (s.withLink { s.link with jobs := rest, state := after })
  | [] => s.withLink { s.link with state := after }

/-- R171: the frame under way ends by completion; the next may start in the same event, its first DRIVEN edge half a
cell later when the ended frame was DRIVEN (R169). -/
def completeFrame (f : Frame) (s : State) : State :=
  tryStart (if f.followed then 1 else halfCell f.rate)
    (dropHead .reportDone (fun j => byteOf j.list.length) .idle s)

/-- R173: the frame under way is given up. -/
def timeoutFrame (s : State) : State := tryStart 1 (dropHead .reportTimeout (fun _ => 0) .idle s)

/-- R174: the frame under way is cut by a disable. -/
def cutFrame (s : State) : State := dropHead .reportAborted (fun _ => 0) .off s

/-- The frame under way replaced, in the state the link is in. -/
def setFrame (f : Frame) (s : State) : State :=
  match s.link.state with
  | .ready _ => s.withLink { s.link with state := .ready f }
  | .sending _ => s.withLink { s.link with state := .sending f }
  | _ => s

/-! ### DRIVEN frames at a REFCLK period (R169) -/

/-- R169: one REFCLK period of a DRIVEN frame: an edge of LCLK when its half cell is over. -/
def drivenStep (f : Frame) : Frame :=
  if 1 < f.wait then { f with wait := f.wait - 1 }
  else if f.lclkHigh then { f with lclkHigh := false, cells := f.cells + 1, wait := halfCell f.rate }
  else { f with lclkHigh := true, wait := halfCell f.rate }

/-- R169, R171: the REFCLK period now beginning brings the rising edge of the last cell. -/
def drivenEnds (f : Frame) : Bool :=
  decide (f.wait ≤ 1) && !f.lclkHigh && decide (frameCells f ≤ f.cells)

/-- R169: the DRIVEN frame under way moved on by one REFCLK period, unless it ends in it. -/
def drivenAdvance (s : State) : State :=
  match s.link.state with
  | .sending f => if f.followed || drivenEnds f then s else setFrame (drivenStep f) s
  | _ => s

/-- R169: a DRIVEN frame ends in the REFCLK period now beginning. -/
def drivenDue (s : State) : Bool :=
  match s.link.state with
  | .sending f => !f.followed && drivenEnds f
  | _ => false

/-! ### Views (R175, R181) -/

/-- R175: the link state's code. -/
def LinkState.code : LinkState → Nat
  | .off => 0
  | .idle => 1
  | .ready _ => 2
  | .sending _ => 3

/-- R175: the state byte of LINKSTATUS. -/
def linkStatusByte (l : Link) : Byte :=
  byteOf (l.state.code + bit (!l.jobs.isEmpty) 2 + bit l.template.isSome 3)

/-- R175: the tag of the head job, 00h when the queue is empty. -/
def headTag (l : Link) : Byte :=
  match l.jobs with
  | j :: _ => j.tag
  | [] => 0

end Sys2Proof.Machine
end

