-- ==== Sys2Proof/Machine/Takes.lean ====
section
/-! DEFINITION. What the sequencer does with a record it has just taken (R71–R92): the shared checks of steps 1 to 3,
and steps 4 and 5 of each of the sixteen commands. -/

namespace Sys2Proof.Machine

/-! ### The completion record and the shared checks -/

/-- R76, R97, R102: the completion record of the command in hand appended, COMP set, nothing owed any more. -/
def complete (op : Opcode) (o : Operands) (st : Status) (s : State) : State :=
  setComp ((s.withRing (s.ring ++ [⟨o.tag, opcodeByte op, st, s.flags⟩])).withOwed false)

/-- R71: a COMMIT or ABORT, which closes a void. -/
def closesVoid (op : Opcode) : Bool := op == .batchCommit || op == .batchAbort

/-- R71, R123: the batch state returns from VOID to NONE. -/
def closeVoid (s : State) : State := s.withBatch { s.batch with phase := .none }

/-- R73: the refusal of a command's class in the batch states NONE and OPEN. -/
def classRefusal (op : Opcode) (p : BatchPhase) : Option Status :=
  match op, p with
  | .setattr, .opened | .setthresh, .opened | .chanconfig, .opened | .chanclear, .opened => some .inBatch
  | .batchOpen, .opened => some .badState
  | .batchCommit, .none | .batchAbort, .none => some .badState
  | _, _ => none

/-- R71–R73: steps 1 to 3 of the order of checks; a command that passes them goes on to its steps 4 and 5. -/
def checked (op : Opcode) (o : Operands) (body : State → State) (s : State) : State :=
  if s.batch.phase = .void then complete op o .void (if closesVoid op then closeVoid s else s)
  else if condHolds o.cond s.flags then
    match classRefusal op s.batch.phase with
    | some st => complete op o st s
    | none => body s
  else complete op o .skipped s

/-! ### Arithmetic commands (section 4.7) -/

/-- R97, R113: the command-side request asserted and the sequencer WAITING; a FREE engine grants it on arrival (R23). -/
def requestEngine (op : Opcode) (o : Operands) (s : State) : State :=
  arrive (setCmdReq true (s.withSeq (.waiting (recordOf op o))))

/-- R114, R122: the refusal UNDO_FULL, its record first and then the void with cause UNDO_FULL. -/
def refuseUndoFull (op : Opcode) (o : Operands) (s : State) : State :=
  beginUnwind (openVoid 1 (complete op o .undoFull s))

/-- R74, R82, R113: steps 4 and 5 of an arithmetic command. -/
def arithBody (op : Opcode) (o : Operands) (s : State) : State :=
  if s.batch.phase = .opened then
    if undoShort s o.target then refuseUndoFull op o s
    else requestEngine op o (s.withBatch { s.batch with member := true })
  else requestEngine op o s

/-- R78. -/
def takeAdd (o : Operands) (s : State) : State := checked .add o (arithBody .add o) s

/-- R78. -/
def takeSub (o : Operands) (s : State) : State := checked .sub o (arithBody .sub o) s

/-- R79. -/
def takeMove (o : Operands) (s : State) : State := checked .move o (arithBody .move o) s

/-- R80. -/
def takeNegate (o : Operands) (s : State) : State := checked .negate o (arithBody .negate o) s

/-- R80. -/
def takeClear (o : Operands) (s : State) : State := checked .clear o (arithBody .clear o) s

/-- R81. -/
def takeCompare (o : Operands) (s : State) : State := checked .compare o (arithBody .compare o) s

/-! ### MARK (section 4.11) -/

/-- R92. -/
def takeMark (o : Operands) (s : State) : State := checked .mark o (complete .mark o .done) s

/-! ### Configuration commands (section 4.8) -/

/-- R5: the four conditions under which a SETATTR of entry i is refused. -/
def attrInvalid (i : Fin 32) (e : Entry) (a : Attr) : Bool :=
  decide (10 ^ a.width ≤ e.value.mag)
    || (match e.threshold with | some t => decide (10 ^ a.width ≤ t.value.mag) | none => false)
    || (match a.link with | some j => decide (j ≤ i) || a.policy == .saturate | none => false)

/-- R83. -/
def takeSetattr (o : Operands) (s : State) : State :=
  checked .setattr o (fun s =>
    let i := o.target
    let e := s.entries[i]
    if attrInvalid i e o.attr then complete .setattr o .attrInvalid s
    else complete .setattr o .done (s.withEntries (setEntry s.entries i { e with attr := o.attr }))) s

/-- R84, R6, R7. -/
def takeSetthresh (o : Operands) (s : State) : State :=
  checked .setthresh o (fun s =>
    let i := o.target
    let e := s.entries[i]
    match o.threshold with
    | none =>
      complete .setthresh o .done
        (s.withEntries (setEntry s.entries i { e with threshold := none, side := .below }))
    | some t =>
      if 10 ^ e.attr.width ≤ t.value.mag then complete .setthresh o .attrInvalid s
      else complete .setthresh o .done
        (s.withEntries (setEntry s.entries i
          { e with threshold := some t, side := sideOf t (committed s i) }))) s

/-- R52: a CHANCONFIG is refused while units are pending and target, weight or direction would change. -/
def chanBusy (c : Channel) (r : ChanRecord) : Bool :=
  decide (0 < c.units) && !(r.target == c.record.target && r.weight == c.record.weight && r.dir == c.record.dir)

/-- R53: a channel record applied. -/
def applyRecord (c : Channel) (r : ChanRecord) : Channel :=
  if r.enable then { c with record := r, divCount := r.divider, input := .arming }
  else { c with record := r, divCount := min c.divCount r.divider, input := .disabled }

/-- R85. -/
def takeChanconfig (o : Operands) (s : State) : State :=
  checked .chanconfig o (fun s =>
    let ch := chanOf o.a
    let c := s.chans[ch]
    if chanBusy c o.chanRecord then complete .chanconfig o .channelBusy s
    else complete .chanconfig o .done (s.withChans (setChan s.chans ch (applyRecord c o.chanRecord)))) s

/-- R54: a channel cleared. -/
def clearChan (c : Channel) : Channel :=
  { c with units := 0, dropped := 0, overrun := false, divCount := c.record.divider, rate := 0, rateLatch := 0 }

/-- R86, R56. -/
def takeChanclear (o : Operands) (s : State) : State :=
  checked .chanclear o (fun s =>
    let ch := chanOf o.a
    complete .chanclear o .done
      (refreshPostReq (s.withChans (setChan s.chans ch (clearChan s.chans[ch]))))) s

/-! ### Batch commands (section 4.9) -/

/-- R112: the timer loaded from BATCHLIMIT; 0 leaves it stopped. -/
def batchTimerLoad (l : BatchLimit) : Option Nat := if l.value = 0 then none else some l.value.toNat

/-- R87, R112. -/
def takeBatchOpen (o : Operands) (s : State) : State :=
  checked .batchOpen o (fun s =>
    complete .batchOpen o .done (s.withBatch { s.batch with
      phase := .opened, undo := [], member := false, deferred := false
      timer := batchTimerLoad s.batchLimit })) s

/-- R116: thresholds evaluated from the oldest record to the newest, the stack emptied, the markers cleared, the batch
state NONE; the channels so released are offered to the engine (R55, R56). DESIGN CHOICE (log 23): at a FREE engine their
request arrives before that of an arithmetic command which the sequencer takes behind the COMMIT in the same event; R23 lets
either arrive first. -/
def commitBatch (s : State) : State :=
  let (es, evs) := evaluateAll s.entries (s.batch.undo.reverse.map fun u => u.index)
  let s1 := appendThreads [evs] (s.withEntries es)
  schedule ((s1.withEntries (clearHeld s1.entries)).withBatch
    { s1.batch with phase := .none, undo := [], timer := none })

/-- R88. -/
def takeBatchCommit (o : Operands) (s : State) : State :=
  checked .batchCommit o (fun s => complete .batchCommit o .done (commitBatch s)) s

/-- R89, R117: the ABORT stays in hand through the unwinding, or completes at once when the stack is empty. -/
def takeBatchAbort (o : Operands) (s : State) : State :=
  checked .batchAbort o (fun s =>
    match s.batch.undo with
    | [] => complete .batchAbort o .done (endUnwind (enterUnwinding .abort s))
    | _ :: _ => beginUnwind (enterUnwinding .abort (s.withSeq (.unwinding (some (recordOf .batchAbort o)))))) s

/-! ### Report commands (section 4.10) -/

/-- R90. -/
def takeReport (o : Operands) (s : State) : State :=
  checked .report o (fun s =>
    if reportFull s then complete .report o .reportFull s
    else complete .report o .done (appendJob ⟨o.tag, false, o.reportList⟩ s)) s

/-- R91, R162. -/
def takeReportPeriodic (o : Operands) (s : State) : State :=
  checked .reportPeriodic o (fun s =>
    complete .reportPeriodic o .done (s.withLink { s.link with
      template := if o.a = 0 then none else some ⟨o.tag, true, o.reportList⟩ })) s

/-- Section 4.5: the record of a command put through the checks and executed or refused. -/
def take (op : Opcode) (o : Operands) (s : State) : State :=
  match op with
  | .mark => takeMark o s
  | .add => takeAdd o s
  | .sub => takeSub o s
  | .move => takeMove o s
  | .negate => takeNegate o s
  | .clear => takeClear o s
  | .compare => takeCompare o s
  | .setattr => takeSetattr o s
  | .setthresh => takeSetthresh o s
  | .chanconfig => takeChanconfig o s
  | .chanclear => takeChanclear o s
  | .batchOpen => takeBatchOpen o s
  | .batchCommit => takeBatchCommit o s
  | .batchAbort => takeBatchAbort o s
  | .report => takeReport o s
  | .reportPeriodic => takeReportPeriodic o s

end Sys2Proof.Machine
end

