-- ==== Sys2Proof/Machine/Pipeline.lean ====
section
/-! DEFINITION. The command queue, the sequencer and the completion ring (ch. 5): the take (R96), the order of tests by
which the sequencer passes on (R99), the end of its commands (R98, R101), submissions (R70) and pops (R103). -/

namespace Sys2Proof.Machine

/-- R95: the command in hand. -/
def inHand : SeqState → Option CmdRec
  | .waiting r => some r
  | .executing r => some r
  | .unwinding a => a
  | _ => none

/-- R95: a command is in hand. -/
def hasCommand (s : State) : Bool := (inHand s.seq).isSome

/-- R102: the completion ring holds its 16 records. -/
def ringFull (s : State) : Bool := decide (Config.ringDepth ≤ s.ring.length)

/-- R96, R105: the head of the queue removed; SPACE set when the queue held 16 records. -/
def popQueue (s : State) : State :=
  let s1 := s.withCmdQueue s.cmdQueue.tail
  if s.cmdQueue.length = Config.queueDepth then setSpace s1 else s1

/-- R96: a record taken: it becomes the command in hand with its completion owed, and is put through the checks. -/
def takeRecord (r : CmdRec) (s : State) : State :=
  match opcodeOf r.code with
  | some op => take op r.ops (s.withOwed true)
  | none => s

/-- R99, R105: the sequencer IDLE; QUIET set when this is an entry into IDLE. -/
def enterIdle (entering : Bool) (s : State) : State :=
  let s1 := s.withSeq .idle
  if entering || s.seq != .idle then setQuiet s1 else s1

/-- R99: the order of tests while no command is in hand; a take in case 4 is made in the same event, and the tests
follow again after a command that leaves the hand at its take. `entering` says that a command or an unwinding has just
left the sequencer. -/
def passOnFor : Nat → Bool → State → State
  | 0, _, s => s
  | fuel + 1, entering, s =>
    if s.batch.phase = .unwinding then s.withSeq (.unwinding none)
    else match s.cmdQueue with
      | [] => enterIdle entering s
      | r :: _ =>
        if ringFull s then s.withSeq .stalled
        else
          let s1 := takeRecord r (popQueue s)
          if hasCommand s1 then s1 else passOnFor fuel true s1

/-- R99: the sequencer passes on. -/
def passOn (entering : Bool) (s : State) : State := passOnFor (s.cmdQueue.length + 1) entering s

/-- R99: the tests applied when a quantity they read has changed and no command is in hand. -/
def recheck (s : State) : State := if hasCommand s then s else passOn false s

/-! ### The take of a given record (log 3) -/

/-- R96: the sequencer can take this record now: RSTn is high, no command is in hand, the ring has room, the batch is
not UNWINDING, the record is well formed, and no other record is ahead of it. -/
def canTake (r : CmdRec) (s : State) : Bool :=
  s.rstn && !hasCommand s && !ringFull s && s.batch.phase != .unwinding && !malformed r
    && (match s.cmdQueue with | [] => true | h :: _ => h == r)

/-- R96: the record removed from the queue when it stands at its head. -/
def beginTake (s : State) : State :=
  (match s.cmdQueue with | [] => s | _ :: _ => popQueue s).withOwed true

/-- The step of a take row: the record taken, checked and executed or refused, and the sequencer passed on; nothing
when the sequencer cannot take it. -/
def takeStep (op : Opcode) (o : Operands) (body : State → State) (s : State) : State :=
  if canTake (recordOf op o) s then
    let s1 := body (beginTake s)
    if hasCommand s1 then s1 else passOn true s1
  else s

/-! ### Completions of the sequencer's operations -/

/-- R98 steps 1 and 2: the flags copied and the DONE record appended, if it is owed. -/
def finishCommand (r : CmdRec) (f : FlagWord) (s : State) : State :=
  if s.owed then
    match opcodeOf r.code with
    | some op => complete op r.ops .done (s.withFlags f)
    | none => s
  else s

/-- R98, R101: a restore or a completion has left the batch UNWINDING, whose unwinder goes on or ends, or in another
state, and the sequencer passes on when it holds no command. -/
def resume (s : State) : State :=
  let s1 := if s.batch.phase = .unwinding then beginUnwind s else s
  if hasCommand s1 then s1 else passOn true s1

/-- R119, R101: the ABORT in hand completed DONE, if it is owed, when its unwinding has ended. -/
def finishAbort (s : State) : State :=
  match s.seq with
  | .unwinding (some r) => (finishCommand r s.flags s).withSeq (.unwinding none)
  | _ => s

/-! ### Window accesses of the pipeline -/

/-- R70, R94: the result of a submit write. -/
def submitVerdict (s : State) : SubmitResult :=
  if malformed s.window.staging then .malformed
  else if Config.queueDepth ≤ s.cmdQueue.length then .queueFull
  else .accepted

/-- R70, R180: the submit write. -/
def submitWrite (s : State) : State :=
  let v := submitVerdict s
  let s1 := s.withWindow { s.window with submit := v }
  if v = .accepted then recheck (s1.withCmdQueue (s1.cmdQueue ++ [s.window.staging])) else s1

/-- R103: the pop of the completion ring; a stalled sequencer then takes (R100). -/
def popRing (s : State) : State :=
  match s.ring with
  | [] => s
  | _ :: rest => recheck (s.withRing rest)

end Sys2Proof.Machine
end

