-- ==== Sys2Proof/Machine/Completions.lean ====
section
/-! DEFINITION. GRANT (R26) and the engine completions (R37, R38): POST_COMPLETION (R29, R60, R61), ARITHMETIC_COMPLETION
(R98, R115) and RESTORE_COMPLETION (R118). -/

namespace Sys2Proof.Machine

/-- R60, R61: the event of one entry written by a post, if any. -/
def postEvent (es : Vector Entry 32) (w : Written) : Option EventBody :=
  match w.outcome with
  | .wrapped => if es[w.index].attr.notifyWrap then some ⟨.wrap, byteOf w.index.val, 0⟩ else none
  | .saturated => some ⟨.saturated, byteOf w.index.val, 0⟩
  | .inRange => none

/-- R60, R61: the events of the post path, in chain order. -/
def postEvents (es : Vector Entry 32) (ws : List Written) : List EventBody := ws.filterMap (postEvent es)

/-- R37, R38: a post completes: its chain write, the events of the post path and of the threshold monitor in a free
order (R136), the engine FREE, and the waiting requests decided (R24). -/
def postDone (op : Operation) (s : State) : State :=
  let (ws, es) := opWrites op s.entries
  let (es1, evs) := evaluateAll es (ws.map fun w => w.index)
  arbitrate (freeEngine (appendThreads [postEvents es1 ws, evs] (s.withEntries es1)))

/-- R115: a completion of a member of the batch: records pushed, markers set, and a deferred void opened (R126). -/
def memberDone (ws : List Written) (s : State) : State :=
  let (es, undo) := pushWritten ws s.entries s.batch.undo
  let s1 := (s.withEntries es).withBatch { s.batch with undo := undo, member := false, deferred := false }
  if s.batch.deferred then openVoid 2 s1 else s1

/-- R133: a completion outside a batch: its writes are committed and evaluated. -/
def plainDone (ws : List Written) (s : State) : State :=
  let (es, evs) := evaluateAll s.entries (ws.map fun w => w.index)
  appendThreads [evs] (s.withEntries es)

/-- R98: the completion of an arithmetic command: its writes, the sequencer's record, the batch unit or the monitor, the
engine FREE and the waiting post decided (R37), then the unwinder and the sequencer (log 11). -/
def arithDone (r : CmdRec) (op : Operation) (s : State) : State :=
  let (ws, es) := opWrites op s.entries
  let s1 := finishCommand r (opFlags op s.entries es ws) (s.withEntries es)
  let s2 := s1.withSeq .stalled
  let s3 := if s.batch.member then memberDone ws s2 else plainDone ws s2
  resume (arbitrate (freeEngine s3))

/-- R118: the completion of a restore: the prior value back, the marker cleared and the record popped, the channels so
released offered to the engine (R56), the engine FREE and a waiting post decided, then the unwinder or the end of the
unwinding (R119). -/
def restoreDone (op : Operation) (s : State) : State :=
  let (_, es) := opWrites op s.entries
  let s1 := (s.withEntries (setEntry es op.target { es[op.target] with held := false })).withBatch
    { s.batch with undo := s.batch.undo.tail }
  let s2 := match s1.batch.undo with
    | [] => finishAbort (endUnwind s1)
    | _ :: _ => s1
  resume (arbitrate (freeEngine (refreshPostReq s2)))

/-! ### The rows -/

/-- GRANT (R26): a waiting request decided at a FREE engine. -/
def execGrant (s : State) : Host.Outcome State Fault Refusal := .next (arrive s)

/-- POST_COMPLETION (R29): the post in flight completes; nothing when no post is in flight. -/
def execPostCompletion (s : State) : Host.Outcome State Fault Refusal :=
  match s.engine.inFlight with
  | some ⟨.post ch w d, t⟩ => .next (postDone ⟨.post ch w d, t⟩ s)
  | _ => .next s

/-- ARITHMETIC_COMPLETION (R98): the command in EXECUTING completes; nothing when none is executing. -/
def execArithmeticCompletion (s : State) : Host.Outcome State Fault Refusal :=
  match s.engine.inFlight, s.seq with
  | some ⟨.post .., _⟩, _ => .next s
  | some ⟨.restore _, _⟩, _ => .next s
  | some op, .executing r => .next (arithDone r op s)
  | _, _ => .next s

/-- RESTORE_COMPLETION (R118): the restore in flight completes; nothing when no restore is in flight. -/
def execRestoreCompletion (s : State) : Host.Outcome State Fault Refusal :=
  match s.engine.inFlight with
  | some ⟨.restore p, t⟩ => .next (restoreDone ⟨.restore p, t⟩ s)
  | _ => .next s

end Sys2Proof.Machine
end

