-- ==== Sys2Proof/Machine/Timebase.lean ====
section
/-! DEFINITION. Time: samples and the channels' qualifiers (R45–R48), the millisecond divider (R149) and its three
consumers (R150), the batch timer's expiry (R125, R126), the interval expiry (R155), the link timeout (R172) and the
DRIVEN clock (R169), and the rows SAMPLE, UNIT_ARRIVAL, MILLISECOND_TICK, BATCH_TIMER_EXPIRY, INTERVAL_EXPIRY,
FRAME_COMPLETION and LINK_TIMEOUT. -/

namespace Sys2Proof.Machine

/-! ### Channels at a sample -/

/-- R47: a change to the given level is a counted edge. -/
def countedEdge (e : EdgeSel) (level : Bool) : Bool :=
  match e with
  | .rising => level
  | .falling => !level
  | .both => true

/-- R48: a counted edge lowers the divider count; at zero it is reloaded and a unit arrives. -/
def countEdge (c : Channel) : Channel × Bool :=
  if c.divCount ≤ 1 then ({ c with divCount := c.record.divider }, true)
  else ({ c with divCount := c.divCount - 1 }, false)

/-- R45, R46: a channel at one sample of its line: the channel after it, and whether a unit arrives. -/
def sampleChan (raw : Bool) (c : Channel) : Channel × Bool :=
  match c.input with
  | .disabled => (c, false)
  | .arming => ({ c with level := raw, qcount := 0, input := .armed }, false)
  | .armed =>
    if raw = c.level then ({ c with qcount := 0 }, false)
    else if c.qcount < c.record.qualify then ({ c with qcount := c.qcount + 1 }, false)
    else
      let c1 := { c with level := raw, qcount := 0 }
      if countedEdge c.record.edge raw then countEdge c1 else (c1, false)

/-- R148: every channel at one sample; the channels that receive a unit. -/
def sampleAll (levels : Byte) (cs : Vector Channel 8) : Vector Channel 8 × List (Fin 8) :=
  (Vector.ofFn fun ch : Fin 8 => (sampleChan (levels.getLsbD ch.val) cs[ch]).1,
    allChans.filter fun ch => (sampleChan (levels.getLsbD ch.val) cs[ch]).2)

/-! ### The millisecond divider -/

/-- R149: the period at which tick k ends. -/
def tickEnd (k : Nat) : Nat := (k + 1) * 4096 / 125

/-- R149: the tick in progress over: the next tick, or the next cycle. -/
def endTick (t : Timebase) : Timebase := if t.tick < 124 then ⟨tickEnd t.tick, t.tick + 1⟩ else ⟨0, 0⟩

/-- R149: one REFCLK period: the divider after it, and whether it ends a tick. -/
def dividerStep (t : Timebase) : Timebase × Bool :=
  if tickEnd t.tick ≤ t.period + 1 then (endTick t, true) else ({ t with period := t.period + 1 }, false)

/-! ### Events of one instant -/

/-- The events that several blocks can meet with in one REFCLK period or tick (R144, R150, R158). -/
inductive TimedEvent where
  | unit (ch : Fin 8)
  | frameEnd
  | batchExpiry
  | intervalReload
  | intervalEvent
  | linkTimeout
deriving DecidableEq, Repr

/-- R125, R126: the batch timer's expiry: deferred while a command of the batch is in flight, and the void with cause
EXPIRED otherwise. The timer stops. -/
def batchExpiry (s : State) : State :=
  if s.batch.member then s.withBatch { s.batch with timer := none, deferred := true }
  else resume (openVoid 2 s)

/-- R51: a channel's rate latched. -/
def latchRate (c : Channel) : Channel := { c with rateLatch := c.rate, rate := 0 }

/-- R155 step 3: the periodic job copied, or REPORT_SKIPPED. -/
def periodicJob (s : State) : State :=
  match s.link.template with
  | none => s
  | some t =>
    if reportFull s then appendEvent ⟨.reportSkipped, t.tag, 0⟩ s
    else appendJob { t with periodic := true } s

/-- R155 steps 1 to 3: the count reloaded, the rates latched, the periodic job copied or skipped. -/
def intervalReload (s : State) : State :=
  periodicJob ((s.withInterval { s.interval with count := s.interval.length }).withChans (s.chans.map latchRate))

/-- R155 step 4. -/
def intervalEvent (s : State) : State :=
  if s.interval.evEnable then appendEvent ⟨.interval, 0, 0⟩ s else s

/-- R173: the frame under way is given up, if its timeout count runs. -/
def linkTimeout (s : State) : State :=
  match s.link.state.frame.bind fun f => f.timeout with
  | some _ => timeoutFrame s
  | none => s

/-- R171: the frame being sent ends by completion. -/
def frameEnd (s : State) : State :=
  match s.link.state with
  | .sending f => completeFrame f s
  | _ => s

/-- One event of an instant. -/
def runTimed (e : TimedEvent) (s : State) : State :=
  match e with
  | .unit ch => unitArrives ch s
  | .frameEnd => frameEnd s
  | .batchExpiry => batchExpiry s
  | .intervalReload => intervalReload s
  | .intervalEvent => intervalEvent s
  | .linkTimeout => linkTimeout s

/-! ### The three consumers of a tick -/

/-- R124: this tick is the batch timer's expiry. -/
def batchDue (b : Batch) : Bool := match b.timer with | some n => decide (n ≤ 1) | none => false

/-- R124: a running batch timer that does not expire is lowered. -/
def batchLower (b : Batch) : Batch :=
  match b.timer with
  | some n => if n ≤ 1 then b else { b with timer := some (n - 1) }
  | none => b

/-- R152: the interval timer is counting. -/
def counting (t : IntervalTimer) : Bool := t.run && t.length != 0 && t.count != 0

/-- R154: this tick is the interval expiry. -/
def intervalDue (t : IntervalTimer) : Bool := counting t && t.count == 1

/-- R154: a counting interval timer that does not expire is lowered. -/
def intervalLower (t : IntervalTimer) : IntervalTimer :=
  if counting t && t.count != 1 then { t with count := t.count - 1 } else t

/-- R172: this tick is the link timeout. -/
def timeoutDue (l : Link) : Bool :=
  match l.state.frame.bind fun f => f.timeout with
  | some n => decide (n ≤ 1)
  | none => false

/-- R172: a running timeout count that does not expire is lowered. -/
def timeoutLower (s : State) : State :=
  match s.link.state.frame with
  | some f =>
    match f.timeout with
    | some n => if n ≤ 1 then s else setFrame { f with timeout := some (n - 1) } s
    | none => s
  | none => s

/-- R150: the counts that this tick lowers without an expiry (log 21). -/
def lowerCounts (s : State) : State :=
  timeoutLower ((s.withBatch (batchLower s.batch)).withInterval (intervalLower s.interval))

/-- R150: the expiries that this tick brings, each consumer's own. -/
def dueExpiries (s : State) : List (List TimedEvent) :=
  [if batchDue s.batch then [.batchExpiry] else [],
    if intervalDue s.interval then .intervalReload :: (if s.interval.evEnable then [.intervalEvent] else []) else [],
    if timeoutDue s.link then [.linkTimeout] else []]

/-- R150: a tick delivered to its consumers, with other events of the same instant, in a free order (log 6). -/
def deliverTick (others : List (List TimedEvent)) (s : State) : State :=
  runThreads runTimed (others ++ dueExpiries s) (lowerCounts s)

/-! ### The rows -/

/-- SAMPLE (R148): one REFCLK period: the DRIVEN clock, the eight samples, the divider, and the events they bring. -/
def execSample (levels : Byte) (s : State) : Host.Outcome State Fault Refusal :=
  let ended : List TimedEvent := if drivenDue s then [.frameEnd] else []
  let (cs, units) := sampleAll levels s.chans
  let (t, tick) := dividerStep s.timebase
  let s1 := ((drivenAdvance s).withChans cs).withTimebase t
  let others := ended :: units.map fun ch => [TimedEvent.unit ch]
  .next (if tick then deliverTick others s1 else runThreads runTimed others s1)

/-- UNIT_ARRIVAL (R49): the counted edge that brings the channel's divider count to zero; nothing at a channel that is
not ARMED (R45). -/
def execUnitArrival (ch : Fin 8) (s : State) : Host.Outcome State Fault Refusal :=
  let c := s.chans[ch]
  .next (if c.input = .armed then
    unitArrives ch (s.withChans (setChan s.chans ch { c with divCount := c.record.divider })) else s)

/-- MILLISECOND_TICK (R149): the tick in progress ends and is delivered (log 4). -/
def execMillisecondTick (s : State) : Host.Outcome State Fault Refusal :=
  .next (deliverTick [] (s.withTimebase (endTick s.timebase)))

/-- BATCH_TIMER_EXPIRY (R125): the batch timer reaches 0; nothing while it is stopped. -/
def execBatchTimerExpiry (s : State) : Host.Outcome State Fault Refusal :=
  .next (if s.batch.timer.isSome then batchExpiry s else s)

/-- INTERVAL_EXPIRY (R155): the interval count reaches 0; nothing while the timer is not counting. -/
def execIntervalExpiry (s : State) : Host.Outcome State Fault Refusal :=
  .next (if counting s.interval then intervalEvent (intervalReload s) else s)

/-- FRAME_COMPLETION (R171): the frame being sent ends at the rising edge of its last cell; nothing when none is. -/
def execFrameCompletion (s : State) : Host.Outcome State Fault Refusal := .next (frameEnd s)

/-- LINK_TIMEOUT (R173): the timeout count reaches 0; nothing while it is stopped. -/
def execLinkTimeout (s : State) : Host.Outcome State Fault Refusal := .next (linkTimeout s)

end Sys2Proof.Machine
end

