-- ==== Sys2Proof/Machine/LclkRows.lean ====
section
/-! DEFINITION. The receiver's clock edges in FOLLOWED mode (R170) and the rows LCLK_FALLING_EDGE and
LCLK_RISING_EDGE. -/

namespace Sys2Proof.Machine

/-- R170, R172: a frame with its timeout count loaded. -/
def reloadTimeout (l : Link) (f : Frame) : Frame := { f with timeout := timeoutLoad l }

/-- R170: the next cell begins at a falling edge. -/
def beginCell (f : Frame) : Frame := { f with cells := f.cells + 1, lclkHigh := false }

/-- R170: a falling edge from the receiver. Without a FOLLOWED frame, or with no cell left to begin, nothing. -/
def fallingEdge (s : State) : State :=
  match s.link.state with
  | .ready f =>
    if f.followed then s.withLink { s.link with state := .sending (reloadTimeout s.link (beginCell f)) } else s
  | .sending f =>
    if f.followed && decide (f.cells < frameCells f) then
      s.withLink { s.link with state := .sending (reloadTimeout s.link (beginCell f)) }
    else s
  | _ => s

/-- R170: a rising edge from the receiver: the timeout reloaded in READY; in SENDING the current bit sampled, and the
frame ended when its cell is the last. -/
def risingEdge (s : State) : State :=
  match s.link.state with
  | .ready f => if f.followed then s.withLink { s.link with state := .ready (reloadTimeout s.link f) } else s
  | .sending f =>
    if f.followed then
      if frameCells f ≤ f.cells then completeFrame f s
      else s.withLink { s.link with state := .sending (reloadTimeout s.link { f with lclkHigh := true }) }
    else s
  | _ => s

/-- LCLK_FALLING_EDGE (R170). -/
def execLclkFallingEdge (s : State) : Host.Outcome State Fault Refusal := .next (fallingEdge s)

/-- LCLK_RISING_EDGE (R170). -/
def execLclkRisingEdge (s : State) : Host.Outcome State Fault Refusal := .next (risingEdge s)

end Sys2Proof.Machine
end

