-- ==== Sys2Proof/Machine/Reset.lean ====
section
/-! DEFINITION. The resets: POWER_ON_RESET (R18, R193), the interface reset (R191) as each block gives it (R41, R107,
R128–R130, R146, R160, R176), and RSTn's two edges (R191, R192). -/

namespace Sys2Proof.Machine

/-- R107, R146, R160, R176, R191: the host-facing state that an interface reset returns to its reset values. -/
def resetHostState (s : State) : State :=
  (((((((s.withCmdQueue []).withRing []).withFlags FlagWord.cleared).withEvents EventQueue.empty).withInterval
    IntervalTimer.cleared).withBatchLimit ⟨0, 0⟩).withLink Link.cleared).withWindow Window.cleared

/-- R129: the reset finds a command of the open batch that the engine is still executing. -/
def memberExecuting (s : State) : Bool :=
  s.batch.member && (match s.seq with | .executing _ => true | _ => false)

/-- R107: the sequencer's command after a reset: a WAITING command discarded and its request withdrawn (R41), an
EXECUTING command or an ABORT kept with nothing owed. -/
def resetSequencer (s : State) : State :=
  match s.seq with
  | .executing _ => s.withOwed false
  | .unwinding _ => s.withOwed false
  | .waiting _ => setCmdReq false ((s.withSeq .idle).withOwed false)
  | _ => (s.withSeq .idle).withOwed false

/-- R128–R130: the batch unit at a reset. -/
def resetBatch (executing : Bool) (s : State) : State :=
  match s.batch.phase with
  | .none => s
  | .opened =>
    let s1 := s.withBatch
      { s.batch with phase := .unwinding, cause := .reset, timer := none, deferred := false, member := executing }
    if executing then s1 else beginUnwind s1
  | .unwinding => s.withBatch { s.batch with cause := .reset }
  | .void => s.withBatch { s.batch with phase := .none }

/-- R107: a sequencer without a command is UNWINDING while the batch state is, and IDLE otherwise; the entry into IDLE
sets no QUIET. -/
def settleReset (s : State) : State :=
  if hasCommand s then s
  else s.withSeq (if s.batch.phase = .unwinding then .unwinding none else .idle)

/-- R191: the interface reset. -/
def interfaceReset (s : State) : State :=
  settleReset (resetBatch (memberExecuting s) (resetSequencer (resetHostState s)))

/-- POWER_ON_RESET (R18, R193): every field at its power-on value; the waiting commands are kept (log 9). -/
def execPowerOnReset (s : State) : Host.Outcome State Fault Refusal :=
  .next ((State.reset.withFreeCount s.freeCount).withPending s.pending)

/-- INTERFACE_RESET (R191): RSTn going low; nothing when it is low already (log 13). -/
def execInterfaceReset (s : State) : Host.Outcome State Fault Refusal :=
  .next (if s.rstn then (interfaceReset s).withRstn false else s)

/-- RSTN_RISE (R192): RSTn high; no other state changes. -/
def execRstnRise (s : State) : Host.Outcome State Fault Refusal := .next (s.withRstn true)

end Sys2Proof.Machine
end

