-- ==== Sys2Proof/Machine/TakeRows.lean ====
section
/-! DEFINITION. The sixteen take rows: the sequencer takes the command, checks it, executes or refuses it, and passes
on (R96–R99; log 3). -/

namespace Sys2Proof.Machine

/-- MARK (R92). -/
def execMark (o : Operands) (s : State) : Host.Outcome State Fault Refusal :=
  .next (takeStep .mark o (takeMark o) s)

/-- ADD (R78). -/
def execAdd (o : Operands) (s : State) : Host.Outcome State Fault Refusal :=
  .next (takeStep .add o (takeAdd o) s)

/-- SUB (R78). -/
def execSub (o : Operands) (s : State) : Host.Outcome State Fault Refusal :=
  .next (takeStep .sub o (takeSub o) s)

/-- MOVE (R79). -/
def execMove (o : Operands) (s : State) : Host.Outcome State Fault Refusal :=
  .next (takeStep .move o (takeMove o) s)

/-- NEGATE (R80). -/
def execNegate (o : Operands) (s : State) : Host.Outcome State Fault Refusal :=
  .next (takeStep .negate o (takeNegate o) s)

/-- CLEAR (R80). -/
def execClear (o : Operands) (s : State) : Host.Outcome State Fault Refusal :=
  .next (takeStep .clear o (takeClear o) s)

/-- COMPARE (R81). -/
def execCompare (o : Operands) (s : State) : Host.Outcome State Fault Refusal :=
  .next (takeStep .compare o (takeCompare o) s)

/-- SETATTR (R83). -/
def execSetattr (o : Operands) (s : State) : Host.Outcome State Fault Refusal :=
  .next (takeStep .setattr o (takeSetattr o) s)

/-- SETTHRESH (R84). -/
def execSetthresh (o : Operands) (s : State) : Host.Outcome State Fault Refusal :=
  .next (takeStep .setthresh o (takeSetthresh o) s)

/-- CHANCONFIG (R85). -/
def execChanconfig (o : Operands) (s : State) : Host.Outcome State Fault Refusal :=
  .next (takeStep .chanconfig o (takeChanconfig o) s)

/-- CHANCLEAR (R86). -/
def execChanclear (o : Operands) (s : State) : Host.Outcome State Fault Refusal :=
  .next (takeStep .chanclear o (takeChanclear o) s)

/-- BATCH_OPEN (R87). -/
def execBatchOpen (o : Operands) (s : State) : Host.Outcome State Fault Refusal :=
  .next (takeStep .batchOpen o (takeBatchOpen o) s)

/-- BATCH_COMMIT (R88). -/
def execBatchCommit (o : Operands) (s : State) : Host.Outcome State Fault Refusal :=
  .next (takeStep .batchCommit o (takeBatchCommit o) s)

/-- BATCH_ABORT (R89). -/
def execBatchAbort (o : Operands) (s : State) : Host.Outcome State Fault Refusal :=
  .next (takeStep .batchAbort o (takeBatchAbort o) s)

/-- REPORT (R90). -/
def execReport (o : Operands) (s : State) : Host.Outcome State Fault Refusal :=
  .next (takeStep .report o (takeReport o) s)

/-- REPORT_PERIODIC (R91). -/
def execReportPeriodic (o : Operands) (s : State) : Host.Outcome State Fault Refusal :=
  .next (takeStep .reportPeriodic o (takeReportPeriodic o) s)

end Sys2Proof.Machine
end

