-- ==== Sys2Proof/Machine/Window.lean ====
section
/-! DEFINITION. The host register window (ch. 10): every address read and written (R178), the captures (R187, R188), the
paired reads (R153, R175), the counts and heads (R183–R185), and the rows of the window accesses. -/

namespace Sys2Proof.Machine

/-! ### Bytes of the state -/

/-- The high byte of a sixteen-bit number. -/
def hiByte (n : Nat) : Byte := byteOf (n / 256)

/-- The low byte of a sixteen-bit number. -/
def loByte (n : Nat) : Byte := byteOf n

/-- R153: a sixteen-bit value from its two bytes. -/
def halfOf (hi lo : Byte) : Half := hi ++ lo

/-- R179: the staged byte of a position, 0 to 11. -/
def stagedByte (r : CmdRec) (pos : Nat) : Byte :=
  match pos with
  | 0 => r.code
  | 1 => r.ops.cond
  | 2 => r.ops.tag
  | 3 => r.ops.a
  | 4 => r.ops.b
  | 5 => r.ops.i0
  | 6 => r.ops.i1
  | 7 => r.ops.i2
  | 8 => r.ops.i3
  | 9 => r.ops.i4
  | 10 => r.ops.i5
  | _ => r.ops.i6

/-- R179: the staged record with the byte of a position replaced. -/
def stageByte (r : CmdRec) (pos : Nat) (v : Byte) : CmdRec :=
  match pos with
  | 0 => { r with code := v }
  | 1 => { r with ops := { r.ops with cond := v } }
  | 2 => { r with ops := { r.ops with tag := v } }
  | 3 => { r with ops := { r.ops with a := v } }
  | 4 => { r with ops := { r.ops with b := v } }
  | 5 => { r with ops := { r.ops with i0 := v } }
  | 6 => { r with ops := { r.ops with i1 := v } }
  | 7 => { r with ops := { r.ops with i2 := v } }
  | 8 => { r with ops := { r.ops with i3 := v } }
  | 9 => { r with ops := { r.ops with i4 := v } }
  | 10 => { r with ops := { r.ops with i5 := v } }
  | _ => { r with ops := { r.ops with i6 := v } }

/-- R181: the sequencer state's code. -/
def SeqState.code : SeqState → Nat
  | .idle => 0
  | .stalled => 1
  | .waiting _ => 2
  | .executing _ => 3
  | .unwinding _ => 4

/-- R181: the batch state's code. -/
def BatchPhase.code : BatchPhase → Nat
  | .none => 0
  | .opened => 1
  | .unwinding => 2
  | .void => 3

/-- R110, R181: RECOVERING. -/
def recovering (b : Batch) : Bool := b.phase == .unwinding && b.cause == .reset

/-- R181: STATUS. -/
def statusByte (s : State) : Byte :=
  byteOf (bit (!engineFree s) 0 + s.seq.code * 2 + s.batch.phase.code * 16 + bit s.link.state.frame.isSome 6
    + bit (recovering s.batch) 7)

/-- R187: the seven bytes of an accumulator capture. -/
def accRecord (e : Entry) : Vector Byte 7 :=
  #v[signWidth e.value e.held e.attr.width, e.value.digitPair 5, e.value.digitPair 4, e.value.digitPair 3,
    e.value.digitPair 2, e.value.digitPair 1, e.value.digitPair 0]

/-- R188: the seven bytes of a channel capture. -/
def chanRecordBytes (c : Channel) : Vector Byte 7 :=
  #v[byteOf (bit c.record.enable 0 + bit c.overrun 1), byteOf c.units, hiByte c.dropped, loByte c.dropped,
    hiByte c.rateLatch, loByte c.rateLatch, byteOf (c.divCount - 1)]

/-- R186: the accumulator that ACCSEL names. -/
def selectedAcc (w : Window) : Fin 32 := ⟨w.accSel.toNat, w.accSel.isLt⟩

/-- R186: the channel that CHSEL names. -/
def selectedChan (w : Window) : Fin 8 := ⟨w.chSel.toNat, w.chSel.isLt⟩

/-- R184: the byte of the completion head at a position, 00h when the ring is empty. -/
def ringHeadByte (ring : List Completion) (pos : Nat) : Byte :=
  match ring with
  | [] => 0
  | c :: _ => match pos with
    | 0 => c.tag
    | 1 => c.code
    | 2 => c.status.code
    | _ => c.flags.toByte

/-- R185: the byte of the event head at a position, 00h when the queue is empty. -/
def eventHeadByte (records : List EventRec) (pos : Nat) : Byte :=
  match records with
  | [] => 0
  | e :: _ => match pos with
    | 0 => e.seqNo
    | 1 => e.body.kind.code
    | 2 => e.body.index
    | _ => e.body.detail

/-- R156: TBCTRL as read; bits 7 to 2 read 0. -/
def tbctrlByte (t : IntervalTimer) : Byte := byteOf (bit t.run 0 + bit t.evEnable 1)

/-- R178: the byte that a read of an address returns, for the addresses whose reads change no state. -/
def plainRead (s : State) (addr : Nat) : Byte :=
  if addr = 0x00 then statusByte s
  else if addr = 0x02 then s.window.irqFlag.toByte
  else if addr = 0x03 then s.window.irqEn.toByte
  else if 0x04 ≤ addr ∧ addr ≤ 0x0F then stagedByte s.window.staging (addr - 0x04)
  else if addr = 0x10 then s.window.submit.code
  else if addr = 0x11 then byteOf s.cmdQueue.length
  else if addr = 0x12 then s.flags.toByte
  else if addr = 0x13 then byteOf s.ring.length
  else if 0x14 ≤ addr ∧ addr ≤ 0x17 then ringHeadByte s.ring (addr - 0x14)
  else if addr = 0x19 then byteOf s.events.records.length
  else if 0x1A ≤ addr ∧ addr ≤ 0x1D then eventHeadByte s.events.records (addr - 0x1A)
  else if addr = 0x1F then byteOf s.events.lost
  else if addr = 0x20 then byteOf s.window.accSel.toNat
  else if 0x21 ≤ addr ∧ addr ≤ 0x27 then s.window.accBuf.toList.getD (addr - 0x21) 0
  else if addr = 0x28 then byteOf s.window.chSel.toNat
  else if 0x29 ≤ addr ∧ addr ≤ 0x2F then s.window.chBuf.toList.getD (addr - 0x29) 0
  else if addr = 0x30 then tbctrlByte s.interval
  else if addr = 0x31 then hiByte s.interval.length.toNat
  else if addr = 0x32 then loByte s.interval.length.toNat
  else if addr = 0x33 then hiByte s.interval.count.toNat
  else if addr = 0x34 then s.interval.latch
  else if addr = 0x35 then hiByte s.batchLimit.value.toNat
  else if addr = 0x36 then loByte s.batchLimit.value.toNat
  else if addr = 0x38 then s.link.ctrl
  else if addr = 0x39 then s.link.timeoutReg
  else if addr = 0x3B then byteOf s.link.jobs.length
  else 0

/-! ### Accesses -/

/-- R175, R178: the LINKSTATUS phase set to STATE, as every access of another address does. -/
def phaseToState (s : State) : State := s.withLink { s.link with lsPhase := .state }

/-- R192: a write takes effect only while RSTn is high; it sets the LINKSTATUS phase to STATE. -/
def hostWrite (act : State → State) (s : State) : State := if s.rstn then act (phaseToState s) else s

/-- R178, R192: a read of an address other than LINKSTATUS: its side effect, then the byte on the bus; while RSTn is
low a read returns 00h and has no side effect. -/
def hostRead (addr : Nat) (act : State → State) (s : State) : State :=
  if s.rstn then
    let s1 := act (phaseToState s)
    s1.withBusOut (plainRead s1 addr)
  else s.withBusOut 0

/-- R187: the capture of the selected entry. -/
def captureAcc (s : State) : State :=
  s.withWindow { s.window with accBuf := accRecord s.entries[selectedAcc s.window] }

/-- R188: the capture of the selected channel. -/
def captureChan (s : State) : State :=
  s.withWindow { s.window with chBuf := chanRecordBytes s.chans[selectedChan s.window] }

/-- R153: the count's low byte latched by a read of its high byte. -/
def latchCount (s : State) : State :=
  s.withInterval { s.interval with latch := loByte s.interval.count.toNat }

/-- R175, R192: a read of LINKSTATUS. -/
def readLinkstatus (s : State) : State :=
  if s.rstn then
    match s.link.lsPhase with
    | .state =>
      (s.withLink { s.link with lsPhase := .tag, tagLatch := headTag s.link }).withBusOut (linkStatusByte s.link)
    | .tag => (s.withLink { s.link with lsPhase := .state }).withBusOut s.link.tagLatch
  else s.withBusOut 0

/-- R143: the pop of the event queue, with the LOST record in the freed place when the lost count is nonzero. -/
def popEvents (s : State) : State :=
  match s.events.records with
  | [] => s
  | _ :: rest =>
    let s1 := s.withEvents { s.events with records := rest }
    if s.events.lost = 0 then s1
    else placeEvent ⟨.lost, 0, byteOf s.events.lost⟩ (s1.withEvents { s1.events with lost := 0 })

/-- R189: the flags whose bits are written 1 cleared. -/
def clearIrq (v : Byte) (s : State) : State := s.withIrqFlag (s.window.irqFlag.clearBy v)

/-- R190: the enables written. -/
def setIrqEn (v : Byte) (s : State) : State := s.withWindow { s.window with irqEn := IrqBits.ofByte v }

/-- R182: a write of CONTROL: an interface reset when bit 0 is set. -/
def writeControl (v : Byte) (s : State) : State := if v.getLsbD 0 then interfaceReset s else s

/-- R153, R157: the INTERVAL write completed at its low byte, and its effect on the count. -/
def writeIntervalLow (v : Byte) (s : State) : State :=
  let len := halfOf s.interval.hold v
  s.withInterval { s.interval with
    length := len
    count := if s.interval.run && s.interval.count == 0 && len != 0 then len else s.interval.count }

/-- R156: a write of TBCTRL. -/
def writeTbctrl (v : Byte) (s : State) : State :=
  s.withInterval { s.interval with
    run := v.getLsbD 0
    evEnable := v.getLsbD 1
    count := if v.getLsbD 0 && !s.interval.run then s.interval.length else s.interval.count }

/-- R163, R174: a write of LINKCTRL: the register, whose bits 7 to 5 read 0, and the link's state. -/
def writeLinkctrl (v : Byte) (s : State) : State :=
  let s1 := s.withLink { s.link with ctrl := v &&& 0x1F }
  if ctrlEnable v then
    match s.link.state with
    | .off => tryStart 1 (s1.withLink { s1.link with state := .idle })
    | _ => s1
  else
    match s.link.state with
    | .off => s1
    | .idle => s1.withLink { s1.link with state := .off }
    | _ => cutFrame s1

/-- R178: a write of any address. -/
def writeReg (addr : Nat) (v : Byte) (s : State) : State :=
  if addr = 0x01 then writeControl v s
  else if addr = 0x02 then clearIrq v s
  else if addr = 0x03 then setIrqEn v s
  else if 0x04 ≤ addr ∧ addr ≤ 0x0F then
    s.withWindow { s.window with staging := stageByte s.window.staging (addr - 0x04) v }
  else if addr = 0x10 then submitWrite s
  else if addr = 0x18 then popRing s
  else if addr = 0x1E then popEvents s
  else if addr = 0x20 then s.withWindow { s.window with accSel := v.setWidth 5 }
  else if addr = 0x28 then s.withWindow { s.window with chSel := v.setWidth 3 }
  else if addr = 0x30 then writeTbctrl v s
  else if addr = 0x31 then s.withInterval { s.interval with hold := v }
  else if addr = 0x32 then writeIntervalLow v s
  else if addr = 0x35 then s.withBatchLimit { s.batchLimit with hold := v }
  else if addr = 0x36 then s.withBatchLimit { s.batchLimit with value := halfOf s.batchLimit.hold v }
  else if addr = 0x38 then writeLinkctrl v s
  else if addr = 0x39 then s.withLink { s.link with timeoutReg := v }
  else s

/-- R178: a read of any address. -/
def readReg (addr : Nat) (s : State) : State :=
  if addr = 0x21 then hostRead addr captureAcc s
  else if addr = 0x29 then hostRead addr captureChan s
  else if addr = 0x33 then hostRead addr latchCount s
  else if addr = 0x3A then readLinkstatus s
  else hostRead addr id s

/-! ### The rows -/

/-- SUBMIT (R180): a write of 10h, whatever the byte. -/
def execSubmit (_v : Byte) (s : State) : Host.Outcome State Fault Refusal := .next (hostWrite submitWrite s)

/-- COMPPOP (R103): a write of 18h, whatever the byte. -/
def execComppop (_v : Byte) (s : State) : Host.Outcome State Fault Refusal := .next (hostWrite popRing s)

/-- EVTPOP (R143): a write of 1Eh, whatever the byte. -/
def execEvtpop (_v : Byte) (s : State) : Host.Outcome State Fault Refusal := .next (hostWrite popEvents s)

/-- IRQFLAG (R189): a write of 02h. -/
def execIrqflag (v : Byte) (s : State) : Host.Outcome State Fault Refusal := .next (hostWrite (clearIrq v) s)

/-- IRQEN (R190): a write of 03h. -/
def execIrqen (v : Byte) (s : State) : Host.Outcome State Fault Refusal := .next (hostWrite (setIrqEn v) s)

/-- INIT (R182): a write of CONTROL, 01h. -/
def execInit (v : Byte) (s : State) : Host.Outcome State Fault Refusal := .next (hostWrite (writeControl v) s)

/-- ACCUMULATOR_CAPTURE (R187): a read of 21h. -/
def execAccumulatorCapture (s : State) : Host.Outcome State Fault Refusal := .next (hostRead 0x21 captureAcc s)

/-- CHANNEL_CAPTURE (R188): a read of 29h. -/
def execChannelCapture (s : State) : Host.Outcome State Fault Refusal := .next (hostRead 0x29 captureChan s)

/-- LINKSTATUS (R175): a read of 3Ah. -/
def execLinkstatus (s : State) : Host.Outcome State Fault Refusal := .next (readLinkstatus s)

/-- INTCOUNT (R153): a read of 33h. -/
def execIntcount (s : State) : Host.Outcome State Fault Refusal := .next (hostRead 0x33 latchCount s)

/-- INTERVAL_WRITE (R157): a write of 32h. -/
def execIntervalWrite (v : Byte) (s : State) : Host.Outcome State Fault Refusal :=
  .next (hostWrite (writeIntervalLow v) s)

/-- TBCTRL (R156): a write of 30h. -/
def execTbctrl (v : Byte) (s : State) : Host.Outcome State Fault Refusal := .next (hostWrite (writeTbctrl v) s)

/-- LINKCTRL (R174): a write of 38h. -/
def execLinkctrl (v : Byte) (s : State) : Host.Outcome State Fault Refusal := .next (hostWrite (writeLinkctrl v) s)

/-- REGISTER_WRITE (R178): a write of any address; at an address with a row of its own it is that row (log 15). -/
def execRegisterWrite (addr : Addr) (v : Byte) (s : State) : Host.Outcome State Fault Refusal :=
  .next (hostWrite (writeReg addr.toNat v) s)

/-- READ_ACCESS (R178): a read of any address; at an address with a step of its own it is that step (log 15). -/
def execReadAccess (addr : Addr) (s : State) : Host.Outcome State Fault Refusal := .next (readReg addr.toNat s)

end Sys2Proof.Machine
end

