-- ==== Sys2Proof/Machine/Dispatch.lean ====
section
/-! DEFINITION. The meaning of each command: one arm for each row of spec/opcode_table.json. -/

namespace Sys2Proof.Machine

def exec (i : Instr) (s : State) : Host.Outcome State Fault Refusal :=
  match i with
  | .powerOnReset => Sys2Proof.Machine.execPowerOnReset s
  | .interfaceReset => Sys2Proof.Machine.execInterfaceReset s
  | .rstnRise => Sys2Proof.Machine.execRstnRise s
  | .sample levels => Sys2Proof.Machine.execSample levels s
  | .unitArrival ch => Sys2Proof.Machine.execUnitArrival ch s
  | .millisecondTick => Sys2Proof.Machine.execMillisecondTick s
  | .grant => Sys2Proof.Machine.execGrant s
  | .postCompletion => Sys2Proof.Machine.execPostCompletion s
  | .arithmeticCompletion => Sys2Proof.Machine.execArithmeticCompletion s
  | .restoreCompletion => Sys2Proof.Machine.execRestoreCompletion s
  | .mark o => Sys2Proof.Machine.execMark o s
  | .add o => Sys2Proof.Machine.execAdd o s
  | .sub o => Sys2Proof.Machine.execSub o s
  | .move o => Sys2Proof.Machine.execMove o s
  | .negate o => Sys2Proof.Machine.execNegate o s
  | .clear o => Sys2Proof.Machine.execClear o s
  | .compare o => Sys2Proof.Machine.execCompare o s
  | .setattr o => Sys2Proof.Machine.execSetattr o s
  | .setthresh o => Sys2Proof.Machine.execSetthresh o s
  | .chanconfig o => Sys2Proof.Machine.execChanconfig o s
  | .chanclear o => Sys2Proof.Machine.execChanclear o s
  | .batchOpen o => Sys2Proof.Machine.execBatchOpen o s
  | .batchCommit o => Sys2Proof.Machine.execBatchCommit o s
  | .batchAbort o => Sys2Proof.Machine.execBatchAbort o s
  | .report o => Sys2Proof.Machine.execReport o s
  | .reportPeriodic o => Sys2Proof.Machine.execReportPeriodic o s
  | .batchTimerExpiry => Sys2Proof.Machine.execBatchTimerExpiry s
  | .intervalExpiry => Sys2Proof.Machine.execIntervalExpiry s
  | .frameCompletion => Sys2Proof.Machine.execFrameCompletion s
  | .linkTimeout => Sys2Proof.Machine.execLinkTimeout s
  | .submit v => Sys2Proof.Machine.execSubmit v s
  | .comppop v => Sys2Proof.Machine.execComppop v s
  | .evtpop v => Sys2Proof.Machine.execEvtpop v s
  | .irqflag v => Sys2Proof.Machine.execIrqflag v s
  | .irqen v => Sys2Proof.Machine.execIrqen v s
  | .init v => Sys2Proof.Machine.execInit v s
  | .accumulatorCapture => Sys2Proof.Machine.execAccumulatorCapture s
  | .channelCapture => Sys2Proof.Machine.execChannelCapture s
  | .linkstatus => Sys2Proof.Machine.execLinkstatus s
  | .intcount => Sys2Proof.Machine.execIntcount s
  | .intervalWrite v => Sys2Proof.Machine.execIntervalWrite v s
  | .tbctrl v => Sys2Proof.Machine.execTbctrl v s
  | .linkctrl v => Sys2Proof.Machine.execLinkctrl v s
  | .registerWrite addr v => Sys2Proof.Machine.execRegisterWrite addr v s
  | .lclkFallingEdge => Sys2Proof.Machine.execLclkFallingEdge s
  | .lclkRisingEdge => Sys2Proof.Machine.execLclkRisingEdge s
  | .readAccess addr => Sys2Proof.Machine.execReadAccess addr s

end Sys2Proof.Machine
end

