-- ==== Sys2Proof/Machine/Pins.lean ====
section
/-! DEFINITION. The levels of the part's output lines, computed from the state (log 20, log 22): IRQn (R190), LCLK, LDAT and
LRDY (R164, R168, R169). -/

namespace Sys2Proof.Machine

/-- R190: IRQn is driven low; otherwise it is released. -/
def irqnLow (s : State) : Bool := irqAsserted s.window

/-- R164, R169: the level that the link drives on LCLK; none when the line is an input or not driven. DESIGN CHOICE (log 22):
when LINKCTRL's mode was rewritten during a frame, the line goes by the new mode from the frame's end on, as R164's table has
it, though R169 has the link drive LCLK high from a DRIVEN frame's end and R174 applies the new mode from the next frame. -/
def lclkDriven (s : State) : Option Bool :=
  match s.link.state with
  | .idle => if ctrlFollowed s.link.ctrl then none else some true
  | .sending f => if f.followed then none else some f.lclkHigh
  | _ => none

/-- R164, R168: LDAT carries the current cell's bit while bits are shifted, and is high otherwise. -/
def ldat (s : State) : Bool :=
  match s.link.state with
  | .sending f => if f.cells = 0 then true else cellBit f (f.cells - 1)
  | _ => true

/-- R164: LRDY is high in READY and during a DRIVEN frame. -/
def lrdy (s : State) : Bool :=
  match s.link.state with
  | .ready _ => true
  | .sending f => !f.followed
  | _ => false

end Sys2Proof.Machine
end

