-- ==== Sys2Proof/Safety.lean ====
section
/-! DEFINITION. What a sound state of the part is: the facts that the spec says hold at every instant, in the terms the
statements use; Sound and Inv gather the decidable ones. -/

namespace Sys2Proof.Safety

open Sys2Proof.Machine

/-- R2, R3: a value that an entry of the given width can hold. -/
abbrev ValueFits (width : Nat) (d : Dec) : Prop := d.mag < 10 ^ width ∧ (d.mag = 0 → d.neg = false)

/-- R4: an attribute record of entry i. -/
abbrev AttrSound (i : Fin 32) (a : Attr) : Prop :=
  1 ≤ a.width ∧ a.width ≤ 12 ∧ ∀ j ∈ a.link, i < j ∧ a.policy = .wrap

/-- R6: a threshold record, if present, fits the width. -/
abbrev ThresholdSound (width : Nat) (t : Option Threshold) : Prop := ∀ x ∈ t, ValueFits width x.value

/-- R2, R4, R6: one entry. -/
abbrev EntrySound (i : Fin 32) (e : Entry) : Prop :=
  ValueFits e.attr.width e.value ∧ AttrSound i e.attr ∧ ThresholdSound e.attr.width e.threshold

/-- R2, R4–R6: every entry of the store. -/
abbrev StoreSound (es : Vector Entry 32) : Prop := ∀ i : Fin 32, EntrySound i es[i]

/-- R111: the undo stack: at most 12 records, no two for one entry, a record exactly for each held entry, and every
prior value one that its entry can hold (R9). -/
abbrev UndoSound (es : Vector Entry 32) (undo : List UndoRec) : Prop :=
  undo.length ≤ 12 ∧ (undo.map fun u => u.index).Nodup
    ∧ (∀ i : Fin 32, es[i].held = true ↔ i ∈ undo.map fun u => u.index)
    ∧ ∀ u ∈ undo, ValueFits es[u.index].attr.width u.prior

/-- R111, R113: the batch unit: nothing to undo in NONE and VOID, no command of the batch in flight there, a timer only
in OPEN, and a member in flight only with an arithmetic command in hand. -/
abbrev BatchSound (s : State) : Prop :=
  (s.batch.phase = .none ∨ s.batch.phase = .void → s.batch.undo = [])
    ∧ (s.batch.timer.isSome = true → s.batch.phase = .opened)
    ∧ (s.batch.deferred = true → s.batch.member = true ∧ s.batch.phase = .opened)
    ∧ (s.batch.member = true → s.batch.phase = .opened ∨ (s.batch.phase = .unwinding ∧ s.batch.cause = .reset))

/-- R95: the sequencer is WAITING. -/
def isWaiting : SeqState → Bool
  | .waiting _ => true
  | _ => false

/-- R95: the sequencer is EXECUTING. -/
def isExecuting : SeqState → Bool
  | .executing _ => true
  | _ => false

/-- R95, R107, R113: the sequencer and the batch unit agree: WAITING only outside an unwinding, with the member marker
exactly while a batch is OPEN; EXECUTING outside VOID, with the marker unless the command belongs to no batch; UNWINDING
exactly while the batch unwinds and no command of it is in flight. -/
def handSound (s : State) : Bool :=
  match s.seq with
  | .waiting r =>
    ((opcodeOf r.code).bind fun op => arithOp op r.ops s.entries).isSome
      && ((s.batch.phase == .none && !s.batch.member) || (s.batch.phase == .opened && s.batch.member))
  | .executing _ => s.batch.phase != .void && s.batch.member == (s.batch.phase != .none)
  | .unwinding _ => s.batch.phase == .unwinding && !s.batch.member
  | _ => s.batch.phase != .unwinding && !s.batch.member

/-- R21, R55, R118: what is in flight: a post's target is not held, and none of its chain; an arithmetic operation belongs
to the command in EXECUTING; a restore is of the newest undo record of a batch that is UNWINDING. -/
def flightSound (s : State) : Bool :=
  match s.engine.inFlight with
  | none => !isExecuting s.seq
  | some ⟨.post .., t⟩ => !chainHeld s.entries t && !isExecuting s.seq
  | some ⟨.restore p, t⟩ =>
    s.batch.phase == .unwinding && s.batch.undo.head? == some ⟨t, p⟩ && !isExecuting s.seq
  | some _ => isExecuting s.seq

/-- R22, R118: the command side's requester: a WAITING sequencer, or the unwinder with a record to restore and no restore
in flight. -/
def wantsCommand (s : State) : Bool :=
  isWaiting s.seq
    || (s.batch.phase == .unwinding && !s.batch.member && !s.batch.undo.isEmpty
      && (match s.engine.inFlight with | some ⟨.restore _, _⟩ => false | _ => true))

/-- R22, R23, R56: the requests at rest: the post side's exactly while some channel is eligible, the command side's exactly
while it has a requester, and none at a FREE engine. -/
abbrev RequestSound (s : State) : Prop :=
  s.engine.postReq = anyEligible s ∧ s.engine.cmdReq = wantsCommand s
    ∧ (engineFree s = true → s.engine.postReq = false ∧ s.engine.cmdReq = false)

/-- R69, R93: the command queue holds at most 16 records, none malformed. -/
abbrev QueueSound (q : List CmdRec) : Prop := q.length ≤ 16 ∧ ∀ r ∈ q, malformed r = false

/-- R96, R102: the ring holds at most 16 records, with a place for the command in hand whose completion is owed. -/
abbrev RingSound (s : State) : Prop :=
  s.ring.length ≤ 16 ∧ (hasCommand s = true → s.owed = true → s.ring.length < 16)

/-- R99: a sequencer at rest takes nothing: IDLE with an empty queue, STALLED with a full ring and a record waiting. -/
def restSound (s : State) : Bool :=
  match s.seq with
  | .idle => s.cmdQueue.isEmpty
  | .stalled => !s.cmdQueue.isEmpty && s.ring.length == 16
  | _ => true

/-- R147: the sequence numbers are consecutive, modulo 256, and the next number follows the last. -/
def consecutive : Byte → List EventRec → Byte → Bool
  | n, [], next => n == next
  | n, r :: rs, next => r.seqNo == n && consecutive (n + 1) rs next

/-- R140, R143, R147: the event queue: at most 24 records numbered in order, and a loss counted only while it is full. -/
abbrev EventSound (q : EventQueue) : Prop :=
  q.records.length ≤ 24 ∧ q.lost ≤ 255 ∧ (q.lost ≠ 0 → q.records.length = 24)
    ∧ consecutive ((q.records.head?.map fun r => r.seqNo).getD q.nextSeq) q.records q.nextSeq = true

/-- R43, R44, R46, R48: the ranges of a channel's counts. -/
abbrev ChanSound (c : Channel) : Prop :=
  c.record.qualify ≤ 15 ∧ 1 ≤ c.record.divider ∧ c.record.divider ≤ 256
    ∧ 1 ≤ c.divCount ∧ c.divCount ≤ c.record.divider ∧ c.units ≤ 255 ∧ c.dropped ≤ 65535
    ∧ c.rate ≤ 65535 ∧ c.rateLatch ≤ 65535 ∧ c.qcount ≤ 15 ∧ (c.input = .armed → c.qcount ≤ c.record.qualify)

/-- R43, R44: all channels. -/
abbrev ChansSound (s : State) : Prop := ∀ ch : Fin 8, ChanSound s.chans[ch]

/-- R149: the period count lies within the tick in progress. -/
abbrev TimebaseSound (t : Timebase) : Prop :=
  t.tick ≤ 124 ∧ t.tick * 4096 / 125 ≤ t.period ∧ t.period < tickEnd t.tick

/-- R161, R164: the report queue holds at most 8 jobs; a frame is under way only with its job at the head; the link is
OFF exactly while the enable bit is 0, and IDLE only with an empty queue. -/
abbrev LinkSound (l : Link) : Prop :=
  l.jobs.length ≤ 8 ∧ (l.state.frame.isSome = true → l.jobs ≠ []) ∧ (l.state = .off ↔ ctrlEnable l.ctrl = false)
    ∧ (l.state = .idle → l.jobs = [])

/-- R137: the stored side of an entry with a threshold is the side of its committed value. -/
abbrev SidesSound (s : State) : Prop :=
  ∀ i : Fin 32, ∀ t ∈ s.entries[i].threshold, s.entries[i].side = sideOf t (committed s i)

/-- R192: the host-facing state stays at its reset values while RSTn is held low; of the window only the interrupt flags
may differ, and no COMP can arise. -/
abbrev HostQuiet (s : State) : Prop :=
  s.rstn = false → s.cmdQueue = [] ∧ s.ring = [] ∧ s.owed = false ∧ s.flags = FlagWord.cleared
    ∧ s.interval = IntervalTimer.cleared ∧ s.batchLimit = ⟨0, 0⟩ ∧ s.link = Link.cleared
    ∧ s.window = { Window.cleared with irqFlag := s.window.irqFlag } ∧ s.window.irqFlag.comp = false

/-- R114: the undo space that the pre-check found for the command of the batch in flight is still there. -/
def spaceSound (s : State) : Bool :=
  !s.batch.member ||
    match s.seq, s.engine.inFlight with
    | .waiting r, _ => !undoShort s r.ops.target
    | .executing _, some op => !undoShort s op.target
    | _, _ => true

/-- The store, the batch unit, the sequencer, the engine and the queues together. -/
structure Sound (s : State) : Prop where
  store : StoreSound s.entries
  undo : UndoSound s.entries s.batch.undo
  batch : BatchSound s
  hand : handSound s = true
  flight : flightSound s = true
  space : spaceSound s = true
  queue : QueueSound s.cmdQueue
  ring : RingSound s
  sides : SidesSound s

/-- Every fact of this file together: what holds of the part at every instant. -/
structure Inv (s : State) : Prop where
  sound : Sound s
  requests : RequestSound s
  rest : restSound s = true
  events : EventSound s.events
  chans : ChansSound s
  timebase : TimebaseSound s.timebase
  link : LinkSound s.link
  quiet : HostQuiet s

/-! ### Terms of the statements -/

/-- The take row of a command. -/
def takeRow (op : Opcode) (o : Operands) : Instr :=
  match op with
  | .mark => .mark o
  | .add => .add o
  | .sub => .sub o
  | .move => .move o
  | .negate => .negate o
  | .clear => .clear o
  | .compare => .compare o
  | .setattr => .setattr o
  | .setthresh => .setthresh o
  | .chanconfig => .chanconfig o
  | .chanclear => .chanclear o
  | .batchOpen => .batchOpen o
  | .batchCommit => .batchCommit o
  | .batchAbort => .batchAbort o
  | .report => .report o
  | .reportPeriodic => .reportPeriodic o

/-- Section 4.2: the six arithmetic commands. -/
def isArith (op : Opcode) : Bool :=
  op == .add || op == .sub || op == .move || op == .negate || op == .clear || op == .compare

/-- Section 4.2: the four configuration commands. -/
def isConfig (op : Opcode) : Bool := op == .setattr || op == .setthresh || op == .chanconfig || op == .chanclear

/-- R96: the sequencer can take the record now, and no record waits behind it. -/
abbrev LastTake (op : Opcode) (o : Operands) (s : State) : Prop :=
  canTake (recordOf op o) s = true ∧ s.cmdQueue.length ≤ 1

/-- R72, R73: the record is the last one, its condition holds, and its class is allowed in the batch state found. -/
abbrev LastRun (op : Opcode) (o : Operands) (s : State) : Prop :=
  LastTake op o s ∧ (s.batch.phase = .none ∨ s.batch.phase = .opened) ∧ condHolds o.cond s.flags = true
    ∧ classRefusal op s.batch.phase = none

/-- R76, R97, R102, R105: s with the record of a command that leaves the hand appended, COMP set and nothing owed. -/
def recorded (op : Opcode) (o : Operands) (st : Status) (s : State) : State :=
  { s with
    owed := false
    ring := s.ring ++ [⟨o.tag, opcodeByte op, st, s.flags⟩]
    window := { s.window with irqFlag := { s.window.irqFlag with comp := true } } }

/-- R76, R97, R99, R105: s once the record of its last command is appended and the sequencer, its queue empty, is IDLE. -/
def completed (op : Opcode) (o : Operands) (st : Status) (s : State) : State :=
  { s with
    cmdQueue := [], owed := false, seq := .idle
    ring := s.ring ++ [⟨o.tag, opcodeByte op, st, s.flags⟩]
    window := { s.window with irqFlag := { s.window.irqFlag with comp := true, quiet := true } } }

/-- R178: the window write that a command is. -/
def windowWrite : Instr → Option (Addr × Byte)
  | .irqflag v => some (0x02, v)
  | .irqen v => some (0x03, v)
  | .init v => some (0x01, v)
  | .submit v => some (0x10, v)
  | .comppop v => some (0x18, v)
  | .evtpop v => some (0x1E, v)
  | .tbctrl v => some (0x30, v)
  | .intervalWrite v => some (0x32, v)
  | .linkctrl v => some (0x38, v)
  | .registerWrite a v => some (a, v)
  | _ => none

/-- R178: the window read that a command is. -/
def windowRead : Instr → Option Addr
  | .accumulatorCapture => some 0x21
  | .channelCapture => some 0x29
  | .intcount => some 0x33
  | .linkstatus => some 0x3A
  | .readAccess a => some a
  | _ => none

/-- R192: the command is a write of the given address that takes effect. -/
def writesAt (addr : Addr) (c : Instr) (s : State) : Bool :=
  s.rstn && (match windowWrite c with | some (a, _) => a == addr | none => false)

/-- R191: the command is an interface reset that takes effect. -/
def resetsInterface (c : Instr) (s : State) : Bool :=
  s.rstn && (c == .interfaceReset || (match windowWrite c with | some (a, v) => a == 0x01 && v.getLsbD 0 | none => false))

/-- The command is a reset that takes effect. -/
def resets (c : Instr) (s : State) : Bool := c == .powerOnReset || resetsInterface c s

/-- Section 1.6, R15 (note): the total that chained entries stand for: the first value, plus the total of the others times
ten to the first width. -/
def chainTotal (es : Vector Entry 32) : List (Fin 32) → Int
  | [] => 0
  | i :: is => es[i].value.toInt + 10 ^ es[i].attr.width * chainTotal es is

/-- R163: the REFCLK periods of half a bit cell at a rate. -/
def halfPeriods (rate : BitVec 2) : Nat :=
  if rate = 0 then 1 else if rate = 1 then 2 else if rate = 2 then 4 else 16

/-- R168: the bit of cell n of a frame, counted from 0: the bytes in order, each in the frame's bit order. -/
def frameBit (f : Frame) (n : Nat) : Bool :=
  (f.bytes.getD (n / 8) 0).getLsbD (if f.lsbFirst then n % 8 else 7 - n % 8)

/-- R165, R169, R172: the link is as the start of a frame for job j in state s leaves it: READY or SENDING by LINKCTRL's mode,
the settings of LINKCTRL, the bytes of a snapshot of s, no cell begun, the timeout loaded in FOLLOWED mode, and in DRIVEN mode
`wait` REFCLK periods to the first falling edge. -/
abbrev FrameStarted (s : State) (j : Job) (wait : Nat) (l : LinkState) : Prop :=
  ∃ f ∈ l.frame, l = (if s.link.ctrl.getLsbD 1 then .ready f else .sending f)
    ∧ f.followed = s.link.ctrl.getLsbD 1 ∧ f.rate = s.link.ctrl.extractLsb' 2 2 ∧ f.lsbFirst = s.link.ctrl.getLsbD 4
    ∧ f.bytes = frameBytes s j ∧ f.cells = 0 ∧ f.lclkHigh = true
    ∧ f.timeout = (if s.link.ctrl.getLsbD 1 && s.link.timeoutReg != 0 then some s.link.timeoutReg.toNat else none)
    ∧ (f.followed = false → f.wait = wait)

/-- R148: the channels after a sample of the given levels, without the units that it brings. -/
def sampledChans (levels : Byte) (s : State) : Vector Channel 8 :=
  Vector.ofFn fun ch : Fin 8 => (sampleChan (levels.getLsbD ch.val) s.chans[ch]).1

/-- R169: the link after a REFCLK period that does not end the frame: a DRIVEN frame being sent moved on. -/
def advancedLink (s : State) : Link :=
  match s.link.state with
  | .sending f => if f.followed then s.link else { s.link with state := .sending (drivenStep f) }
  | _ => s.link

/-- Events appended one after another (R142). -/
def appendAll (evs : List EventBody) (s : State) : State := evs.foldl (fun s b => appendEvent b s) s

/-- R155: the events of an interval expiry: REPORT_SKIPPED when the job finds the report queue full, then INTERVAL when
enabled. -/
def expiryEvents (s : State) : List EventBody :=
  (match s.link.template with
    | some j => if s.link.jobs.length < 8 then [] else [⟨.reportSkipped, j.tag, 0⟩]
    | none => [])
    ++ (if s.interval.evEnable then [⟨.interval, 0, 0⟩] else [])

end Sys2Proof.Safety
end

