-- ==== Sys2Proof/WellFormed.lean ====
section
/-! DEFINITION. Which commands are well formed: a take row's record passes the static checks of R69, an INIT has bit 0
set (R182), and a REGISTER_WRITE or READ_ACCESS names an address without a row of its own (R178). -/

namespace Sys2Proof

/-- R69: the take row's record is not malformed. -/
def takeOk (op : Opcode) (o : Operands) : Bool := !malformed (recordOf op o)

/-- The addresses whose reads have a step of their own: 21h, 29h, 33h, 3Ah. -/
def readHasRow (addr : Addr) : Bool := addr == 0x21 || addr == 0x29 || addr == 0x33 || addr == 0x3A

/-- The addresses whose writes have a row of their own; CONTROL has one when bit 0 is set. -/
def writeHasRow (addr : Addr) (v : Byte) : Bool :=
  (addr == 0x01 && v.getLsbD 0) || addr == 0x02 || addr == 0x03 || addr == 0x10 || addr == 0x18 || addr == 0x1E
    || addr == 0x30 || addr == 0x32 || addr == 0x38

/-- A command is well formed. -/
def wellFormed : Instr → Bool
  | .mark o => takeOk .mark o
  | .add o => takeOk .add o
  | .sub o => takeOk .sub o
  | .move o => takeOk .move o
  | .negate o => takeOk .negate o
  | .clear o => takeOk .clear o
  | .compare o => takeOk .compare o
  | .setattr o => takeOk .setattr o
  | .setthresh o => takeOk .setthresh o
  | .chanconfig o => takeOk .chanconfig o
  | .chanclear o => takeOk .chanclear o
  | .batchOpen o => takeOk .batchOpen o
  | .batchCommit o => takeOk .batchCommit o
  | .batchAbort o => takeOk .batchAbort o
  | .report o => takeOk .report o
  | .reportPeriodic o => takeOk .reportPeriodic o
  | .init v => v.getLsbD 0
  | .registerWrite addr v => !writeHasRow addr v
  | .readAccess addr => !readHasRow addr
  | .powerOnReset | .interfaceReset | .rstnRise | .sample _ | .unitArrival _ | .millisecondTick | .grant
  | .postCompletion | .arithmeticCompletion | .restoreCompletion | .batchTimerExpiry | .intervalExpiry
  | .frameCompletion | .linkTimeout | .submit _ | .comppop _ | .evtpop _ | .irqflag _ | .irqen _
  | .accumulatorCapture | .channelCapture | .linkstatus | .intcount | .intervalWrite _ | .tbctrl _ | .linkctrl _
  | .lclkFallingEdge | .lclkRisingEdge => true

end Sys2Proof
end

