-- ==== Sys2Proof/Certificates/Slice0/Obligations.lean ====
section
/-! DEFINITION. The statements for the provers. Each says what a command or the part does by the rules it cites
(OBLIGATIONS.json). Where the spec leaves an order open the statement holds for every free choice (log 6). -/

open Sys2Proof Sys2Proof.Machine Sys2Proof.Safety

/-! ### The queue of commands -/

/-- The command at the front is run with the queue's rest; the block idles on an empty queue (log 7). -/
def Obligations.StepRunsFrontCommand : Prop :=
  (∀ (c : Instr) (rest : List Instr) (s : State), s.pending = c :: rest → step s = exec c (s.withPending rest))
    ∧ ∀ s : State, s.pending = [] → step s = .next s

/-- R178, R192: every command has an effect or is ignored; none stops the part or touches the commands that wait. That a
command which cannot happen, or is ill formed, is ignored and still answers is the model's choice (logs 2, 3, 13, 14, 16), and
so are the queue of waiting commands (log 7) and that POWER_ON_RESET keeps it (log 9). -/
def Obligations.CommandsAnswerNextAndKeepQueue : Prop :=
  ∀ (c : Instr) (s : State), ∃ t, exec c s = .next t ∧ t.pending = s.pending

/-! ### Decimal values, the fit and the chain -/

/-- R10–R12, R28: exact sums and differences, a zero result positive, and the three outcomes of a fit. -/
def Obligations.DecimalArithmetic : Prop :=
  (∀ a b : Dec, (Dec.add a b).toInt = a.toInt + b.toInt ∧ (Dec.sub a b).toInt = a.toInt - b.toInt
      ∧ ((Dec.add a b).mag = 0 → (Dec.add a b).neg = false) ∧ ((Dec.sub a b).mag = 0 → (Dec.sub a b).neg = false))
    ∧ ∀ (a : Attr) (r : Dec), 1 ≤ a.width →
      (r.mag < 10 ^ a.width → fit a r = ⟨.inRange, Dec.make r.neg r.mag, none⟩)
        ∧ (10 ^ a.width ≤ r.mag → a.policy = .wrap →
          fit a r = ⟨.wrapped, Dec.make r.neg (r.mag % 10 ^ a.width), some ⟨r.neg, r.mag / 10 ^ a.width⟩⟩)
        ∧ (10 ^ a.width ≤ r.mag → a.policy = .saturate → fit a r = ⟨.saturated, ⟨r.neg, 10 ^ a.width - 1⟩, none⟩)

/-- R15, R38: a chain write begins with its target, writes a beginning of the target's chain in chain order, hands on each
entry's value from before, changes nothing but values, and leaves every other entry as it was; what it writes fits. -/
def Obligations.ChainWriteFrame : Prop :=
  ∀ (es : Vector Entry 32) (i : Fin 32) (r : Dec), StoreSound es →
    (∃ rest, (chainWrite es i r).1.map (fun w => w.index) = i :: rest)
      ∧ (chainWrite es i r).1.map (fun w => w.index) <+: chain es i
      ∧ (∀ w ∈ (chainWrite es i r).1, w.prior = es[w.index].value)
      ∧ (∀ j : Fin 32, j ∉ (chainWrite es i r).1.map (fun w => w.index) → (chainWrite es i r).2[j] = es[j])
      ∧ (∀ j : Fin 32, (chainWrite es i r).2[j] = { es[j] with value := (chainWrite es i r).2[j].value })
      ∧ StoreSound (chainWrite es i r).2

/-- R15 (note): while every fit is IN_RANGE or WRAPPED onto a present link, the chain keeps the exact total: it changes by
exactly the result less the target's old value. -/
def Obligations.ChainKeepsTotal : Prop :=
  ∀ (es : Vector Entry 32) (i : Fin 32) (r : Dec), StoreSound es →
    (∀ w ∈ (chainWrite es i r).1, w.outcome ≠ .saturated
      ∧ (w.outcome = .wrapped → es[w.index].attr.link.isSome = true)) →
    chainTotal (chainWrite es i r).2 (chain es i) = chainTotal es (chain es i) + (r.toInt - es[i].value.toInt)

/-- R134, R135: a committed write of an entry with a threshold stores the new side and hands on one event exactly when
the side changes in a direction that the filter passes; without a threshold the entry is passed over. -/
def Obligations.ThresholdEvaluation : Prop :=
  ∀ (es : Vector Entry 32) (i : Fin 32),
    (es[i].threshold = none → evaluate es i = (es, none))
      ∧ ∀ t : Threshold, es[i].threshold = some t →
        (t.value.toInt ≤ es[i].value.toInt → es[i].side = .atOrAbove → evaluate es i = (es, none))
          ∧ (es[i].value.toInt < t.value.toInt → es[i].side = .below → evaluate es i = (es, none))
          ∧ (t.value.toInt ≤ es[i].value.toInt → es[i].side = .below →
            evaluate es i = (setEntry es i { es[i] with side := .atOrAbove },
              if t.filter = .down then none else some ⟨.threshold, byteOf i.val, 1⟩))
          ∧ (es[i].value.toInt < t.value.toInt → es[i].side = .atOrAbove →
            evaluate es i = (setEntry es i { es[i] with side := .below },
              if t.filter = .up then none else some ⟨.threshold, byteOf i.val, 2⟩))

/-! ### What only some commands can change -/

/-- R77: the flag word is changed only by the DONE completion of an arithmetic command, which sets it from that command's
result, and by resets, which clear it. -/
def Obligations.FlagWordChanges : Prop :=
  ∀ (c : Instr) (s t : State), exec c s = .next t →
    (resets c s = true → t.flags = FlagWord.cleared)
      ∧ (resets c s = false → c ≠ .arithmeticCompletion → t.flags = s.flags)
      ∧ (c = .arithmeticCompletion → s.owed = false → t.flags = s.flags)
      ∧ (c = .arithmeticCompletion → isExecuting s.seq = false → t.flags = s.flags)
      ∧ ∀ (x : Operation) (r : CmdRec), c = .arithmeticCompletion → s.owed = true → s.seq = .executing r →
        (opcodeOf r.code).isSome = true → s.engine.inFlight = some x → x.kind.arbSide = .command →
        (∀ p, x.kind ≠ .restore p) → t.flags = opFlags x s.entries (opWrites x s.entries).2 (opWrites x s.entries).1

/-- R16, R26, R39, R41: no command but an engine completion or power-on changes a value, and none of them stops, cancels or
changes the operation in flight. -/
def Obligations.OnlyCompletionsEndOperations : Prop :=
  ∀ (c : Instr) (s t : State), exec c s = .next t → c ≠ .powerOnReset → c ≠ .postCompletion →
    c ≠ .arithmeticCompletion → c ≠ .restoreCompletion →
    (∀ i : Fin 32, t.entries[i].value = s.entries[i].value)
      ∧ ∀ x : Operation, s.engine.inFlight = some x → t.engine.inFlight = some x

/-- R93, R102, R104, R140, R144: the command queue gives up its records from its head and takes accepted ones at its tail;
the completion ring and the event queue take records at their tails and give up one at the head at a pop. -/
def Obligations.FifosKeepOrder : Prop :=
  ∀ (c : Instr) (s t : State), exec c s = .next t → resets c s = false →
    t.cmdQueue <:+ s.cmdQueue
        ++ (if writesAt 0x10 c s = true ∧ submitVerdict s = .accepted then [s.window.staging] else [])
      ∧ (if writesAt 0x18 c s = true then s.ring.tail else s.ring) <+: t.ring
      ∧ (if writesAt 0x1E c s = true then s.events.records.tail else s.events.records) <+: t.events.records

/-! ### Invariants that every step keeps -/

/-- R142, R143, R147: the event queue's records are numbered consecutively and at most 24, and a loss is counted only while
it is full. -/
def Obligations.EventQueueStaysNumbered : Prop :=
  ∀ s t : State, EventSound s.events → step s = .next t → EventSound t.events

/-- R44, R46, R48, R69, R93, R96, R102, R149, R161, R164: the channels' counts stay in their ranges, the divider within
its tick, the report queue and the link's state together; the command queue never holds a malformed record or more than 16,
and the ring never more than 16, with a place left for a command in hand whose completion is owed. -/
def Obligations.BlocksStaySound : Prop :=
  ∀ s t : State, step s = .next t →
    (ChansSound s → ChansSound t) ∧ (TimebaseSound s.timebase → TimebaseSound t.timebase)
      ∧ (LinkSound s.link → LinkSound t.link) ∧ (QueueSound s.cmdQueue → QueueSound t.cmdQueue)
      ∧ (RingSound s → RingSound t)

/-- R192: while RSTn is held low the host-facing state stays at its reset values, and no COMP arises. -/
def Obligations.HostStateStaysReset : Prop :=
  ∀ s t : State, HostQuiet s → step s = .next t → HostQuiet t

/-- R2, R4–R6, R21, R22, R55, R95, R99, R110, R111, R113, R114, R137: everything that holds of the part at every instant is
kept by every step. -/
def Obligations.InvariantIsKept : Prop :=
  ∀ s t : State, Inv s → step s = .next t → Inv t

/-- The state right after power-on satisfies the invariant; every invariant of this file is a part of it. -/
def Obligations.InvariantHoldsAtReset : Prop := Inv State.reset

/-- R119, R120: while a batch unwinds, no command but a power-on reset changes the committed value of a held entry: what
it held before the batch's first write. -/
def Obligations.UnwindingKeepsCommittedValues : Prop :=
  ∀ (c : Instr) (s t : State), Inv s → s.batch.phase = .unwinding → c ≠ .powerOnReset → exec c s = .next t →
    ∀ i : Fin 32, s.entries[i].held = true → committed t i = committed s i

/-- R55: no post writes an accumulator that is held. -/
def Obligations.PostsSpareHeldEntries : Prop :=
  ∀ s t : State, Inv s → exec .postCompletion s = .next t →
    ∀ i : Fin 32, s.entries[i].held = true → t.entries[i] = s.entries[i]

/-! ### Resets and RSTn -/

/-- R18, R40, R63, R109, R131, R146, R151, R160, R177, R193: the values after power-on. RSTn high, the bus byte and what is
kept are the model's choices (log 9, log 10). -/
def Obligations.PowerOnResetValues : Prop :=
  ∀ s : State, ∃ t, exec .powerOnReset s = .next t ∧
    (∀ i : Fin 32, t.entries[i] = ⟨⟨false, 0⟩, ⟨12, .wrap, none, false⟩, none, .below, false⟩)
      ∧ (∀ ch : Fin 8, t.chans[ch] =
        ⟨⟨false, .rising, 0, 1, 1, .add, ⟨ch.val, by omega⟩⟩, .disabled, false, 0, 1, 0, 0, false, 0, 0⟩)
      ∧ t.schedPtr = 0 ∧ t.engine = ⟨none, .command, false, false⟩
      ∧ t.cmdQueue = [] ∧ t.seq = .idle ∧ t.owed = false ∧ t.flags = ⟨false, false, false, false⟩ ∧ t.ring = []
      ∧ t.batch = ⟨.none, .abort, [], none, false, false⟩ ∧ t.events = ⟨[], 0, 0⟩ ∧ t.timebase = ⟨0, 0⟩
      ∧ t.interval = ⟨false, false, 0, 0, 0, 0⟩ ∧ t.batchLimit = ⟨0, 0⟩
      ∧ t.link = ⟨[], none, 0, 0, .off, .state, 0⟩ ∧ t.window = Window.cleared
      ∧ t.rstn = true ∧ t.busOut = 0 ∧ t.freeCount = s.freeCount ∧ t.pending = s.pending

/-- R19, R41, R64, R107, R146, R151, R160, R176, R191: an interface reset, by the pin or by INIT, empties the host-facing
state and keeps the store, the channels, the scheduler, the divider and the operation in flight. -/
def Obligations.InterfaceResetClearsHostState : Prop :=
  ∀ (c : Instr) (s : State), RequestSound s → resetsInterface c s = true → ∃ t, exec c s = .next t ∧
    t.cmdQueue = [] ∧ t.ring = [] ∧ t.owed = false ∧ t.flags = ⟨false, false, false, false⟩
      ∧ t.events = ⟨[], 0, 0⟩ ∧ t.interval = ⟨false, false, 0, 0, 0, 0⟩ ∧ t.batchLimit = ⟨0, 0⟩
      ∧ t.link = ⟨[], none, 0, 0, .off, .state, 0⟩ ∧ t.window = Window.cleared
      ∧ t.rstn = (c != .interfaceReset)
      ∧ t.entries = s.entries ∧ t.chans = s.chans ∧ t.schedPtr = s.schedPtr ∧ t.timebase = s.timebase
      ∧ t.engine.postReq = s.engine.postReq ∧ t.batch.undo = s.batch.undo ∧ t.busOut = s.busOut
      ∧ t.freeCount = s.freeCount ∧ t.pending = s.pending
      ∧ ∀ x : Operation, s.engine.inFlight = some x → t.engine.inFlight = some x ∧ t.engine.lastGranted = s.engine.lastGranted

/-- R41, R107, R108, R128–R130: what an interface reset makes of the sequencer and the batch unit in each state it finds. -/
def Obligations.InterfaceResetUnwindsBatch : Prop :=
  ∀ (c : Instr) (s : State), Inv s → resetsInterface c s = true → ∃ t, exec c s = .next t ∧
    (s.batch.phase = .none → t.batch = s.batch
        ∧ t.seq = (match s.seq with | .executing r => .executing r | _ => .idle) ∧ t.engine.cmdReq = false)
      ∧ (s.batch.phase = .void → t.batch = { s.batch with phase := .none } ∧ t.seq = .idle)
      ∧ (s.batch.phase = .unwinding → t.batch = { s.batch with cause := .reset } ∧ t.seq = s.seq
        ∧ t.engine = s.engine)
      ∧ (∀ r : CmdRec, s.batch.phase = .opened → s.seq = .executing r →
        t.batch = { s.batch with phase := .unwinding, cause := .reset, timer := none, deferred := false }
          ∧ t.seq = .executing r ∧ t.engine = s.engine)
      ∧ (s.batch.phase = .opened → isExecuting s.seq = false → s.batch.undo = [] →
        t.batch = { s.batch with phase := .none, cause := .reset, timer := none, deferred := false, member := false }
          ∧ t.seq = .idle ∧ t.engine.cmdReq = false ∧ t.engine.inFlight = s.engine.inFlight)
      ∧ (∀ (u : UndoRec) (us : List UndoRec), s.batch.phase = .opened → isExecuting s.seq = false →
        s.batch.undo = u :: us →
        t.batch = { s.batch with phase := .unwinding, cause := .reset, timer := none, deferred := false, member := false }
          ∧ t.seq = .unwinding none
          ∧ (engineFree s = true → t.engine.inFlight = some ⟨.restore u.prior, u.index⟩ ∧ t.engine.cmdReq = false)
          ∧ (engineFree s = false → t.engine.inFlight = s.engine.inFlight ∧ t.engine.cmdReq = true))

/-- R192: while RSTn is held low a write changes nothing and a read returns 00h without a side effect; its rise changes no
other state. -/
def Obligations.WindowIgnoredWhileResetLow : Prop :=
  (∀ (c : Instr) (s : State), s.rstn = false → (windowWrite c).isSome = true → exec c s = .next s)
    ∧ (∀ (c : Instr) (s : State), s.rstn = false → (windowRead c).isSome = true → exec c s = .next { s with busOut := 0 })
    ∧ ∀ s : State, exec .rstnRise s = .next { s with rstn := true }

/-! ### Samples, ticks and timers -/

/-- R45–R48, R148, R149: at a sample each channel acts on its line by its input state, and the divider counts one period.
With no record waiting in the command queue, nothing else of the same instant touches these. R169: a sample that brings no
unit, no tick and no frame's end changes nothing else but, while a DRIVEN frame is being sent, that frame, by one period of its
clock. A sample that brings one unit is otherwise that UNIT_ARRIVAL, one that ends a tick that MILLISECOND_TICK, and one that
brings a DRIVEN frame's end that FRAME_COMPLETION (the rows as commands: logs 2, 4, 5). -/
def Obligations.SampleQualifies : Prop :=
  (∀ (levels : Byte) (s : State), s.cmdQueue = [] → ∃ t, exec (.sample levels) s = .next t ∧
    (∀ ch : Fin 8, t.chans[ch].record = s.chans[ch].record
      ∧ (s.chans[ch].input = .disabled →
        t.chans[ch].input = .disabled ∧ t.chans[ch].level = s.chans[ch].level
          ∧ t.chans[ch].qcount = s.chans[ch].qcount ∧ t.chans[ch].divCount = s.chans[ch].divCount)
      ∧ (s.chans[ch].input = .arming →
        t.chans[ch].input = .armed ∧ t.chans[ch].level = levels.getLsbD ch.val
          ∧ t.chans[ch].qcount = 0 ∧ t.chans[ch].divCount = s.chans[ch].divCount)
      ∧ (s.chans[ch].input = .armed → levels.getLsbD ch.val = s.chans[ch].level →
        t.chans[ch].input = .armed ∧ t.chans[ch].level = s.chans[ch].level
          ∧ t.chans[ch].qcount = 0 ∧ t.chans[ch].divCount = s.chans[ch].divCount)
      ∧ (s.chans[ch].input = .armed → levels.getLsbD ch.val ≠ s.chans[ch].level →
        s.chans[ch].qcount < s.chans[ch].record.qualify →
        t.chans[ch].input = .armed ∧ t.chans[ch].level = s.chans[ch].level
          ∧ t.chans[ch].qcount = s.chans[ch].qcount + 1 ∧ t.chans[ch].divCount = s.chans[ch].divCount)
      ∧ (s.chans[ch].input = .armed → levels.getLsbD ch.val ≠ s.chans[ch].level →
        s.chans[ch].record.qualify ≤ s.chans[ch].qcount →
        t.chans[ch].input = .armed ∧ t.chans[ch].level = levels.getLsbD ch.val ∧ t.chans[ch].qcount = 0
          ∧ t.chans[ch].divCount =
            (if (s.chans[ch].record.edge = .rising ∧ levels.getLsbD ch.val = false)
                ∨ (s.chans[ch].record.edge = .falling ∧ levels.getLsbD ch.val = true) then s.chans[ch].divCount
              else if s.chans[ch].divCount ≤ 1 then s.chans[ch].record.divider else s.chans[ch].divCount - 1)))
      ∧ t.timebase = (if (s.timebase.tick + 1) * 4096 / 125 ≤ s.timebase.period + 1 then
          (if s.timebase.tick < 124 then ⟨(s.timebase.tick + 1) * 4096 / 125, s.timebase.tick + 1⟩ else ⟨0, 0⟩)
        else ⟨s.timebase.period + 1, s.timebase.tick⟩))
    ∧ (∀ (levels : Byte) (s : State), (sampleAll levels s.chans).2 = [] → (dividerStep s.timebase).2 = false →
      drivenDue s = false →
      exec (.sample levels) s = .next { s with
        chans := Vector.ofFn fun ch : Fin 8 => (sampleChan (levels.getLsbD ch.val) s.chans[ch]).1
        timebase := ⟨s.timebase.period + 1, s.timebase.tick⟩
        link := (match s.link.state with
          | .sending f => if f.followed then s.link else { s.link with state := .sending (drivenStep f) }
          | _ => s.link) })
    ∧ (∀ f : Frame, (1 < f.wait → drivenStep f = { f with wait := f.wait - 1 })
      ∧ (f.wait ≤ 1 → f.lclkHigh = true →
        drivenStep f = { f with lclkHigh := false, cells := f.cells + 1, wait := halfPeriods f.rate })
      ∧ (f.wait ≤ 1 → f.lclkHigh = false → drivenStep f = { f with lclkHigh := true, wait := halfPeriods f.rate }))
    ∧ (∀ s : State, drivenDue s = true ↔ ∃ f, s.link.state = .sending f ∧ f.followed = false ∧ f.wait ≤ 1
      ∧ f.lclkHigh = false ∧ 8 * f.bytes.length ≤ f.cells)
    ∧ (∀ (levels : Byte) (s : State) (ch : Fin 8), (sampleAll levels s.chans).2 = [ch] →
      (dividerStep s.timebase).2 = false → drivenDue s = false →
      exec (.sample levels) s = exec (.unitArrival ch) { s with
        chans := sampledChans levels s, timebase := ⟨s.timebase.period + 1, s.timebase.tick⟩, link := advancedLink s })
    ∧ (∀ (levels : Byte) (s : State), (sampleAll levels s.chans).2 = [] → (dividerStep s.timebase).2 = true →
      drivenDue s = false →
      exec (.sample levels) s = exec .millisecondTick { s with chans := sampledChans levels s, link := advancedLink s })
    ∧ ∀ (levels : Byte) (s : State), (sampleAll levels s.chans).2 = [] → (dividerStep s.timebase).2 = false →
      drivenDue s = true →
      exec (.sample levels) s = exec .frameCompletion { s with
        chans := sampledChans levels s, timebase := ⟨s.timebase.period + 1, s.timebase.tick⟩ }

/-- R49, R50, R56: a unit that arrives while the engine is busy is counted, or dropped with an OVERRUN event when the
overrun flag was clear, and the scheduler's request follows; at a FREE engine an eligible channel's post starts. -/
def Obligations.UnitArrivalCounts : Prop :=
  ∀ (ch : Fin 8) (s : State), s.chans[ch].input = .armed →
    (engineFree s = false → s.chans[ch].units < 255 →
      exec (.unitArrival ch) s = .next (refreshPostReq { s with
        chans := setChan s.chans ch { s.chans[ch] with
          divCount := s.chans[ch].record.divider, units := s.chans[ch].units + 1
          rate := min 65535 (s.chans[ch].rate + 1) } }))
      ∧ (engineFree s = false → 255 ≤ s.chans[ch].units → s.chans[ch].overrun = true →
        exec (.unitArrival ch) s = .next (refreshPostReq { s with
          chans := setChan s.chans ch { s.chans[ch] with
            divCount := s.chans[ch].record.divider, dropped := min 65535 (s.chans[ch].dropped + 1)
            rate := min 65535 (s.chans[ch].rate + 1) } }))
      ∧ (engineFree s = false → 255 ≤ s.chans[ch].units → s.chans[ch].overrun = false →
        exec (.unitArrival ch) s = .next (refreshPostReq (appendEvent ⟨.overrun, byteOf ch.val, 0⟩ { s with
          chans := setChan s.chans ch { s.chans[ch] with
            divCount := s.chans[ch].record.divider, dropped := min 65535 (s.chans[ch].dropped + 1), overrun := true
            rate := min 65535 (s.chans[ch].rate + 1) } })))
      ∧ (engineFree s = true → s.engine.cmdReq = false → (∀ k : Fin 8, s.chans[k].units = 0) →
        chainHeld s.entries s.chans[ch].record.target = false →
        exec (.unitArrival ch) s = .next { s with
          chans := setChan s.chans ch { s.chans[ch] with
            divCount := s.chans[ch].record.divider, rate := min 65535 (s.chans[ch].rate + 1) }
          schedPtr := ch + 1
          engine := ⟨some ⟨.post ch s.chans[ch].record.weight s.chans[ch].record.dir, s.chans[ch].record.target⟩, .post,
            false, false⟩ })
      ∧ (engineFree s = true → s.engine.cmdReq = false → s.chans[ch].units < 255 →
        (∀ k : Fin 8, 0 < s.chans[k].units ∨ k = ch → chainHeld s.entries s.chans[k].record.target = true) →
        exec (.unitArrival ch) s = .next { s with
          chans := setChan s.chans ch { s.chans[ch] with
            divCount := s.chans[ch].record.divider, units := s.chans[ch].units + 1
            rate := min 65535 (s.chans[ch].rate + 1) }
          engine := { s.engine with postReq := false } })

/-- R124, R149, R150, R154, R172: a tick without an expiry lowers the batch timer, a counting interval timer and a running
link timeout by one, and nothing else but the divider changes. That the command stands for the rest of the tick is the
model's choice (log 4). -/
def Obligations.TickLowersCounts : Prop :=
  ∀ s : State, batchDue s.batch = false → intervalDue s.interval = false → timeoutDue s.link = false →
    ∃ t, exec .millisecondTick s = .next t ∧
      t = { s with timebase := t.timebase, batch := t.batch, interval := t.interval, link := t.link }
        ∧ t.timebase = (if s.timebase.tick < 124 then ⟨(s.timebase.tick + 1) * 4096 / 125, s.timebase.tick + 1⟩ else ⟨0, 0⟩)
        ∧ t.batch = { s.batch with timer := s.batch.timer.map (fun n => n - 1) }
        ∧ t.interval = (if s.interval.run = true ∧ s.interval.length ≠ 0 ∧ s.interval.count ≠ 0
            then { s.interval with count := s.interval.count - 1 } else s.interval)
        ∧ t.link = { s.link with state := (match s.link.state with
            | .ready f => .ready { f with timeout := f.timeout.map (fun n => n - 1) }
            | .sending f => .sending { f with timeout := f.timeout.map (fun n => n - 1) }
            | l => l) }

/-- R124, R150, R154, R172: a tick that brings one expiry lowers the other counts and is then that expiry. R150 gives the
consumers no order: that the other counts are lowered first, so that a timeout loaded by the expiry is not, is log 21; the
rows as commands are logs 2 and 4. -/
def Obligations.TickBringsOneExpiry : Prop :=
  ∀ s : State,
    (batchDue s.batch = true → intervalDue s.interval = false → timeoutDue s.link = false →
      exec .millisecondTick s = exec .batchTimerExpiry (lowerCounts { s with timebase := endTick s.timebase }))
      ∧ (batchDue s.batch = false → intervalDue s.interval = true → timeoutDue s.link = false →
        exec .millisecondTick s = exec .intervalExpiry (lowerCounts { s with timebase := endTick s.timebase }))
      ∧ (batchDue s.batch = false → intervalDue s.interval = false → timeoutDue s.link = true →
        exec .millisecondTick s = exec .linkTimeout (lowerCounts { s with timebase := endTick s.timebase }))

/-- R51, R155, R165: an interval expiry reloads the count, latches every channel's rate, copies the periodic job or raises
REPORT_SKIPPED, and then raises INTERVAL when enabled; the job copied lets a frame start on an IDLE link, and nothing else
changes. A timer that is not counting has no expiry (log 2). -/
def Obligations.IntervalExpiryActs : Prop :=
  ∀ s : State,
    (¬(s.interval.run = true ∧ s.interval.length ≠ 0 ∧ s.interval.count ≠ 0) → exec .intervalExpiry s = .next s)
      ∧ (s.interval.run = true → s.interval.length ≠ 0 → s.interval.count ≠ 0 → ∃ t, exec .intervalExpiry s = .next t ∧
        t.interval = { s.interval with count := s.interval.length }
          ∧ (∀ ch : Fin 8, t.chans[ch] = { s.chans[ch] with rateLatch := s.chans[ch].rate, rate := 0 })
          ∧ t.link.jobs = (match s.link.template with
            | some j => if s.link.jobs.length < 8 then s.link.jobs ++ [{ j with periodic := true }] else s.link.jobs
            | none => s.link.jobs)
          ∧ (s.link.state ≠ .idle ∨ s.link.template = none ∨ 8 ≤ s.link.jobs.length → t.link.state = s.link.state)
          ∧ (∀ (j k : Job) (ks : List Job), s.link.state = .idle → s.link.template = some j → s.link.jobs.length < 8 →
            s.link.jobs ++ [{ j with periodic := true }] = k :: ks → FrameStarted s k 1 t.link.state)
          ∧ t = { s with
            interval := t.interval, chans := t.chans, link := { s.link with jobs := t.link.jobs, state := t.link.state }
            events := (appendAll (expiryEvents s) s).events, window := (appendAll (expiryEvents s) s).window })

/-- R125, R126: the batch timer's expiry voids the batch at once, with a BATCH_VOID event of detail 2, or is deferred while
a command of the batch is in flight; a stopped timer has none (log 2). -/
def Obligations.BatchTimerExpiryVoids : Prop :=
  ∀ s : State, Inv s →
    (s.batch.timer = none → exec .batchTimerExpiry s = .next s)
      ∧ (s.batch.timer.isSome = true → s.batch.member = true →
        exec .batchTimerExpiry s = .next { s with batch := { s.batch with timer := none, deferred := true } })
      ∧ (∀ (u : UndoRec) (us : List UndoRec), s.batch.timer.isSome = true → s.batch.member = false →
        s.batch.undo = u :: us → ∃ t, exec .batchTimerExpiry s = .next t ∧
          t.batch = { s.batch with phase := .unwinding, cause := .void, timer := none } ∧ t.seq = .unwinding none
            ∧ t.events = (appendEvent ⟨.batchVoid, 0, 2⟩ s).events
            ∧ (engineFree s = true → t.engine.inFlight = some ⟨.restore u.prior, u.index⟩)
            ∧ (engineFree s = false → t.engine = { s.engine with cmdReq := true })
            ∧ t.entries = s.entries ∧ t.chans = s.chans ∧ t.cmdQueue = s.cmdQueue ∧ t.ring = s.ring ∧ t.flags = s.flags
            ∧ t.link = s.link ∧ t.interval = s.interval)
      ∧ (s.batch.timer.isSome = true → s.batch.member = false → s.batch.undo = [] → s.cmdQueue = [] →
        ∃ t, exec .batchTimerExpiry s = .next t ∧
          t.batch = { s.batch with phase := .void, cause := .void, timer := none } ∧ t.seq = .idle
            ∧ t.events = (appendEvent ⟨.batchVoid, 0, 2⟩ s).events
            ∧ t.entries = s.entries ∧ t.chans = s.chans ∧ t.ring = s.ring ∧ t.flags = s.flags ∧ t.engine = s.engine)

/-! ### The report link -/

/-- R167: a frame has 4 + 8n bytes: the header, the tag, the origin with the count, the entries, and a check byte that
makes the sum of all bytes but the header zero. -/
def Obligations.FrameLayout : Prop :=
  ∀ (s : State) (j : Job), j.list.length ≤ 8 →
    (frameBytes s j).length = 4 + 8 * j.list.length
      ∧ (frameBytes s j).take 3 = [0xD4, j.tag, byteOf ((if j.periodic then 128 else 0) + j.list.length)]
      ∧ byteSum ((frameBytes s j).drop 1) = 0
      ∧ ∀ (k : Nat) (i : Fin 32), j.list[k]? = some i →
        ((frameBytes s j).drop (3 + 8 * k)).take 8 =
          byteOf i.val
            :: byteOf ((if (committed s i).neg then 128 else 0) + s.entries[i].attr.width % 16)
            :: (committed s i).packed

/-- R165, R169, R171, R173, R174: a frame's end by completion, timeout or disable takes its job from the head of the report
queue and appends the event of the outcome; after a completion or a timeout the next job's frame starts in the same event, with
a fresh snapshot, its first DRIVEN edge half a cell later when the ended frame was DRIVEN. Nothing changes but the link, the
event queue and EVT. The rows as commands are log 2. -/
def Obligations.FrameEnds : Prop :=
  ∀ (s : State) (j : Job) (rest : List Job), s.link.jobs = j :: rest →
    (∀ f : Frame, s.link.state = .sending f → ∃ t, exec .frameCompletion s = .next t ∧
      (rest = [] → t.link.state = .idle)
        ∧ (∀ (k : Job) (ks : List Job), rest = k :: ks →
          FrameStarted s k (if f.followed then 1 else halfPeriods f.rate) t.link.state)
        ∧ t = { s with
          link := { s.link with jobs := rest, state := t.link.state }
          events := (appendEvent ⟨.reportDone, j.tag, byteOf j.list.length⟩ s).events
          window := (appendEvent ⟨.reportDone, j.tag, byteOf j.list.length⟩ s).window })
      ∧ (∀ f : Frame, s.link.state.frame = some f → f.timeout.isSome = true → ∃ t, exec .linkTimeout s = .next t ∧
        (rest = [] → t.link.state = .idle)
          ∧ (∀ (k : Job) (ks : List Job), rest = k :: ks → FrameStarted s k 1 t.link.state)
          ∧ t = { s with
            link := { s.link with jobs := rest, state := t.link.state }
            events := (appendEvent ⟨.reportTimeout, j.tag, 0⟩ s).events
            window := (appendEvent ⟨.reportTimeout, j.tag, 0⟩ s).window })
      ∧ (∀ (f : Frame) (v : Byte), s.link.state.frame = some f → s.rstn = true → v.getLsbD 0 = false →
        exec (.linkctrl v) s = .next { s with
          link := { s.link with jobs := rest, state := .off, ctrl := v &&& 0x1F, lsPhase := .state }
          events := (appendEvent ⟨.reportAborted, j.tag, 0⟩ s).events
          window := (appendEvent ⟨.reportAborted, j.tag, 0⟩ s).window })

/-- R164, R165, R168, R170, R172: the receiver's edges: a falling edge starts the first or the next cell, whose bit LDAT then
carries with LRDY low and LCLK an input, and loads the timeout; a rising edge loads it, keeps the lines, and at the last cell
ends the frame. While no frame is under way an edge is ignored (R164); that it is ignored under a DRIVEN frame, and that edges
need not alternate, is the model's choice (log 14). -/
def Obligations.ReceiverClocksFrame : Prop :=
  ∀ s : State,
    (∀ f : Frame, s.link.state = .ready f → f.followed = true →
      exec .lclkFallingEdge s = .next { s with link := { s.link with state := .sending { f with
          cells := f.cells + 1, lclkHigh := false
          timeout := if s.link.timeoutReg = 0 then none else some s.link.timeoutReg.toNat } } }
        ∧ exec .lclkRisingEdge s = .next { s with link := { s.link with state := .ready { f with
          timeout := if s.link.timeoutReg = 0 then none else some s.link.timeoutReg.toNat } } })
      ∧ (∀ f : Frame, s.link.state = .sending f → f.followed = true → f.cells < 8 * f.bytes.length →
        exec .lclkFallingEdge s = .next { s with link := { s.link with state := .sending { f with
            cells := f.cells + 1, lclkHigh := false
            timeout := if s.link.timeoutReg = 0 then none else some s.link.timeoutReg.toNat } } }
          ∧ exec .lclkRisingEdge s = .next { s with link := { s.link with state := .sending { f with
            lclkHigh := true
            timeout := if s.link.timeoutReg = 0 then none else some s.link.timeoutReg.toNat } } })
      ∧ (∀ f : Frame, s.link.state = .sending f → f.followed = true → 8 * f.bytes.length ≤ f.cells →
        exec .lclkRisingEdge s = exec .frameCompletion s)
      ∧ ((∀ f : Frame, s.link.state.frame = some f → f.followed = false) →
        exec .lclkFallingEdge s = .next s ∧ exec .lclkRisingEdge s = .next s)
      ∧ (∀ (f : Frame) (t : State), s.link.state.frame = some f → f.followed = true →
        s.link.state = .ready f ∨ f.cells < 8 * f.bytes.length →
        (exec .lclkFallingEdge s = .next t → ldat t = frameBit f f.cells ∧ lrdy t = false ∧ lclkDriven t = none)
          ∧ (exec .lclkRisingEdge s = .next t → ldat t = ldat s ∧ lrdy t = lrdy s ∧ lclkDriven t = none))

/-- R163, R165, R174: a write of LINKCTRL that enables an OFF link starts the head job's frame, in the written mode, or
leaves the link IDLE; while a frame is under way it changes only the register; a disable of an IDLE link turns it OFF. R164,
R168, R169: the lines that the link drives in each state; a READY frame is FOLLOWED. LDAT high before a DRIVEN frame's first
cell is log 20; IDLE's LCLK going by LINKCTRL's mode however the link came to IDLE is log 22. -/
def Obligations.LinkctrlEnablesLink : Prop :=
  (∀ s : State,
    (s.link.state = .off → lclkDriven s = none ∧ ldat s = true ∧ lrdy s = false)
      ∧ (s.link.state = .idle →
        lclkDriven s = (if s.link.ctrl.getLsbD 1 then none else some true) ∧ ldat s = true ∧ lrdy s = false)
      ∧ (∀ f : Frame, s.link.state = .ready f → lclkDriven s = none ∧ ldat s = true ∧ lrdy s = true)
      ∧ (∀ f : Frame, s.link.state = .sending f →
        lclkDriven s = (if f.followed then none else some f.lclkHigh) ∧ lrdy s = !f.followed
          ∧ (f.cells = 0 → ldat s = true) ∧ ∀ n : Nat, f.cells = n + 1 → ldat s = frameBit f n))
  ∧ ∀ (v : Byte) (s : State), s.rstn = true →
    (v.getLsbD 0 = true → s.link.state = .off → s.link.jobs = [] →
      exec (.linkctrl v) s = .next { s with link := { s.link with ctrl := v &&& 0x1F, state := .idle, lsPhase := .state } })
      ∧ (∀ (j : Job) (rest : List Job), v.getLsbD 0 = true → s.link.state = .off → s.link.jobs = j :: rest →
        ∃ t f, exec (.linkctrl v) s = .next t
          ∧ t.link = { s.link with
            ctrl := v &&& 0x1F, lsPhase := .state, state := if v.getLsbD 1 then .ready f else .sending f }
          ∧ f.followed = v.getLsbD 1 ∧ f.rate = v.extractLsb' 2 2 ∧ f.lsbFirst = v.getLsbD 4
          ∧ f.bytes = frameBytes s j ∧ f.cells = 0
          ∧ f.timeout = (if v.getLsbD 1 && s.link.timeoutReg != 0 then some s.link.timeoutReg.toNat else none)
          ∧ t = { s with link := t.link })
      ∧ (v.getLsbD 0 = true → s.link.state ≠ .off →
        exec (.linkctrl v) s = .next { s with link := { s.link with ctrl := v &&& 0x1F, lsPhase := .state } })
      ∧ (v.getLsbD 0 = false → s.link.state = .off ∨ s.link.state = .idle →
        exec (.linkctrl v) s = .next { s with link := { s.link with ctrl := v &&& 0x1F, state := .off, lsPhase := .state } })

/-! ### The engine -/

/-- R23–R26, R57, R59: the arbiter's decision at a FREE engine: the side waiting alone is granted, of two the one not
granted last; a post side without an eligible channel passes; nothing happens at a busy engine or without a request. -/
def Obligations.GrantStartsOperation : Prop :=
  ∀ s : State,
    (engineFree s = false → exec .grant s = .next s)
      ∧ (s.engine.postReq = false → s.engine.cmdReq = false → exec .grant s = .next s)
      ∧ (∀ (r : CmdRec) (op : Opcode) (x : Operation), engineFree s = true → s.engine.cmdReq = true →
        (s.engine.postReq = false ∨ s.engine.lastGranted = .post) → s.batch.phase ≠ .unwinding → s.seq = .waiting r →
        opcodeOf r.code = some op → arithOp op r.ops s.entries = some x →
        exec .grant s = .next { s with
          seq := .executing r, engine := ⟨some x, .command, s.engine.postReq, false⟩ })
      ∧ (∀ (u : UndoRec) (us : List UndoRec), engineFree s = true → s.engine.cmdReq = true →
        (s.engine.postReq = false ∨ s.engine.lastGranted = .post) → s.batch.phase = .unwinding → s.batch.undo = u :: us →
        exec .grant s = .next { s with
          engine := ⟨some ⟨.restore u.prior, u.index⟩, .command, s.engine.postReq, false⟩ })
      ∧ (∀ ch : Fin 8, engineFree s = true → s.engine.postReq = true →
        (s.engine.cmdReq = false ∨ s.engine.lastGranted = .command) → chooseChan s = some ch →
        exec .grant s = .next (refreshPostReq { s with
          chans := setChan s.chans ch { s.chans[ch] with units := s.chans[ch].units - 1 }
          schedPtr := ch + 1
          engine := ⟨some ⟨.post ch s.chans[ch].record.weight s.chans[ch].record.dir, s.chans[ch].record.target⟩, .post,
            true, s.engine.cmdReq⟩ }))
      ∧ (engineFree s = true → s.engine.postReq = true → s.engine.cmdReq = false → chooseChan s = none →
        exec .grant s = .next { s with engine := { s.engine with postReq := false } })

/-- R57: the scheduler chooses the first eligible channel from its pointer upward, 7 wrapping to 0, and none exactly when
none is eligible. -/
def Obligations.RoundRobinChoice : Prop :=
  ∀ s : State,
    (∀ ch : Fin 8, chooseChan s = some ch → eligible s ch = true
      ∧ ∀ k : Fin 8, k < ch - s.schedPtr → eligible s (s.schedPtr + k) = false)
      ∧ (chooseChan s = none ↔ ∀ ch : Fin 8, eligible s ch = false)

/-- R24, R29, R37: a post completes: the signed weight is added to its target's chain, thresholds are evaluated, the engine
is FREE again or granted to a waiting side, and nothing of the command path changes but by that grant. -/
def Obligations.PostCompletionPosts : Prop :=
  ∀ (s : State) (ch : Fin 8) (w : Nat) (d : Direction) (tgt : Fin 32), s.engine.inFlight = some ⟨.post ch w d, tgt⟩ →
    ∃ t, exec .postCompletion s = .next t ∧
      t.entries = (evaluateAll
          (chainWrite s.entries tgt (Dec.add s.entries[tgt].value (Dec.make (d == .subtract) w))).2
          ((chainWrite s.entries tgt (Dec.add s.entries[tgt].value (Dec.make (d == .subtract) w))).1.map
            fun x => x.index)).1
        ∧ t.flags = s.flags ∧ t.ring = s.ring ∧ t.cmdQueue = s.cmdQueue ∧ t.owed = s.owed ∧ t.batch = s.batch
        ∧ t.link = s.link ∧ t.interval = s.interval ∧ t.timebase = s.timebase ∧ t.rstn = s.rstn
        ∧ (s.engine.postReq = false → s.engine.cmdReq = false →
          t.engine = { s.engine with inFlight := none } ∧ t.seq = s.seq ∧ t.chans = s.chans ∧ t.schedPtr = s.schedPtr)
        ∧ (∀ (r : CmdRec) (op : Opcode) (x : Operation), s.engine.cmdReq = true → s.engine.lastGranted = .post →
          s.batch.phase ≠ .unwinding → s.seq = .waiting r → opcodeOf r.code = some op →
          arithOp op r.ops t.entries = some x →
          t.engine = ⟨some x, .command, s.engine.postReq, false⟩ ∧ t.seq = .executing r ∧ t.chans = s.chans)

/-- R60, R61, R136, R144: while the event queue has room, a post's WRAP and SATURATED events and its THRESHOLD events are
appended in any mixture that keeps each series in its own chain order. -/
def Obligations.PostEventsKeepTheirOrder : Prop :=
  ∀ (s : State) (ch : Fin 8) (w : Nat) (d : Direction) (tgt : Fin 32), s.engine.inFlight = some ⟨.post ch w d, tgt⟩ →
    let ws := (opWrites ⟨.post ch w d, tgt⟩ s.entries).1
    let es := (opWrites ⟨.post ch w d, tgt⟩ s.entries).2
    let path := postEvents es ws
    let monitor := (evaluateAll es (ws.map fun x => x.index)).2
    s.events.records.length + path.length + monitor.length ≤ 24 →
      ∃ t new, exec .postCompletion s = .next t ∧ t.events.records = s.events.records ++ new
        ∧ ((new.map fun e => e.body).filter fun b => b.kind != .threshold) = path
        ∧ ((new.map fun e => e.body).filter fun b => b.kind == .threshold) = monitor
        ∧ t.events.lost = s.events.lost

/-- R30–R34, R36, R98, R133: an arithmetic command outside a batch completes: the entries its kind writes, evaluated, the
flag word from its result, its DONE record, COMP, and, with nothing waiting, an IDLE sequencer and QUIET. -/
def Obligations.ArithmeticCompletionOutsideBatch : Prop :=
  ∀ (s : State) (r : CmdRec) (op : Opcode) (x : Operation), s.seq = .executing r → opcodeOf r.code = some op →
    s.engine.inFlight = some x → x.kind.arbSide = .command → (∀ p, x.kind ≠ .restore p) → s.owed = true →
    s.batch.member = false → s.batch.phase = .none → s.cmdQueue = [] → s.engine.postReq = false →
    s.engine.cmdReq = false → ∃ t, exec .arithmeticCompletion s = .next t ∧
      t.entries = (evaluateAll (opWrites x s.entries).2 ((opWrites x s.entries).1.map fun w => w.index)).1
        ∧ (∀ src, x.kind = .add src → opWrites x s.entries
          = chainWrite s.entries x.target (Dec.add s.entries[x.target].value src))
        ∧ (∀ src, x.kind = .sub src → opWrites x s.entries
          = chainWrite s.entries x.target (Dec.sub s.entries[x.target].value src))
        ∧ (∀ src, x.kind = .move src → opWrites x s.entries = chainWrite s.entries x.target src)
        ∧ (x.kind = .negate → StoreSound s.entries → (opWrites x s.entries).2 = setEntry s.entries x.target
          { s.entries[x.target] with value := s.entries[x.target].value.flip })
        ∧ (x.kind = .clear → StoreSound s.entries → (opWrites x s.entries).2 = setEntry s.entries x.target
          { s.entries[x.target] with value := ⟨false, 0⟩ })
        ∧ (∀ src, x.kind = .compare src → t.entries = s.entries
          ∧ t.flags = ⟨decide (s.entries[x.target].value.toInt < src.toInt),
            decide (s.entries[x.target].value.toInt = src.toInt), false, false⟩)
        ∧ t.flags = opFlags x s.entries (opWrites x s.entries).2 (opWrites x s.entries).1
        ∧ t.ring = s.ring ++ [⟨r.ops.tag, opcodeByte op, .done, t.flags⟩]
        ∧ t = (
          let u := appendAll
              (evaluateAll (opWrites x s.entries).2 ((opWrites x s.entries).1.map fun w => w.index)).2 s;
          { s with
            entries := t.entries, flags := t.flags, ring := t.ring, events := u.events
            engine := { s.engine with inFlight := none }, seq := .idle, owed := false
            window := { u.window with irqFlag := { u.window.irqFlag with comp := true, quiet := true } } })

/-- R98, R115, R126, R133: a command of an open batch completes: for each entry written and not yet held an undo record with
the value from before is pushed and the entry marked held, no threshold is evaluated; a deferred expiry then starts the
void, after the DONE record. R41, R108, R129: a command of the batch that an interface reset found EXECUTING is pushed and
held the same way, but completes without a record, flags or COMP, and the unwinding with cause RESET then begins, behind a
post that is waiting (log 11), or ends at once when the stack is empty. -/
def Obligations.ArithmeticCompletionInBatch : Prop :=
  (∀ (s : State) (r : CmdRec) (op : Opcode) (x : Operation), Inv s → s.seq = .executing r → opcodeOf r.code = some op →
    s.engine.inFlight = some x → s.owed = true → s.batch.member = true → s.batch.phase = .opened → s.cmdQueue = [] →
    s.engine.postReq = false → ∃ t, exec .arithmeticCompletion s = .next t ∧
      (∀ i : Fin 32, t.entries[i] = { s.entries[i] with
        value := (opWrites x s.entries).2[i].value
        held := s.entries[i].held || ((opWrites x s.entries).1.map fun w => w.index).contains i })
        ∧ t.batch.undo = (((opWrites x s.entries).1.filter fun w => !s.entries[w.index].held).map
            fun w => ⟨w.index, s.entries[w.index].value⟩).reverse ++ s.batch.undo
        ∧ (∀ i : Fin 32, committed t i = committed s i)
        ∧ t.flags = opFlags x s.entries (opWrites x s.entries).2 (opWrites x s.entries).1
        ∧ t.ring = s.ring ++ [⟨r.ops.tag, opcodeByte op, .done, t.flags⟩] ∧ t.batch.member = false
        ∧ t.batch.deferred = false
        ∧ (s.batch.deferred = false → t.batch.phase = .opened ∧ t.events = s.events ∧ t.seq = .idle
          ∧ t.engine = { s.engine with inFlight := none })
        ∧ (s.batch.deferred = true → t.batch.cause = .void ∧ t.events = (appendEvent ⟨.batchVoid, 0, 2⟩ s).events
          ∧ ∀ (u : UndoRec) (us : List UndoRec), t.batch.undo = u :: us → t.batch.phase = .unwinding
            ∧ t.seq = .unwinding none ∧ t.engine.inFlight = some ⟨.restore u.prior, u.index⟩))
  ∧ ∀ (s : State) (r : CmdRec) (x : Operation), Inv s → s.seq = .executing r → s.engine.inFlight = some x →
    s.owed = false → s.batch.member = true → s.batch.phase = .unwinding → ∃ t, exec .arithmeticCompletion s = .next t ∧
      (∀ i : Fin 32, t.entries[i] = { s.entries[i] with
        value := (opWrites x s.entries).2[i].value
        held := s.entries[i].held || ((opWrites x s.entries).1.map fun w => w.index).contains i })
        ∧ t.batch.undo = (((opWrites x s.entries).1.filter fun w => !s.entries[w.index].held).map
            fun w => ⟨w.index, s.entries[w.index].value⟩).reverse ++ s.batch.undo
        ∧ t.batch.member = false ∧ t.batch.deferred = false ∧ t.batch.cause = .reset
        ∧ (∀ (u : UndoRec) (us : List UndoRec), t.batch.undo = u :: us →
          t.batch.phase = .unwinding ∧ t.seq = .unwinding none ∧ t.cmdQueue = s.cmdQueue ∧ t.ring = s.ring
            ∧ t.owed = false ∧ t.flags = s.flags ∧ t.events = s.events ∧ t.window = s.window
            ∧ (s.engine.postReq = false → t.engine.inFlight = some ⟨.restore u.prior, u.index⟩)
            ∧ ∀ ch : Fin 8, s.engine.postReq = true → eligible { s with entries := t.entries } ch = true →
              (∃ c w d g, t.engine.inFlight = some ⟨.post c w d, g⟩) ∧ t.engine.cmdReq = true)
        ∧ (t.batch.undo = [] → s.cmdQueue = [] → t.batch.phase = .none ∧ t.seq = .idle ∧ t.ring = s.ring
          ∧ t.flags = s.flags ∧ t.events = s.events
          ∧ t.window = { s.window with irqFlag := { s.window.irqFlag with quiet := true } })

/-- R35, R118, R119, R101: a restore completes: the newest record's prior value back, its marker cleared and the record
popped; a post waiting there goes first; otherwise the next record's restore starts; with the stack empty the unwinding
ends by its cause and an owed ABORT completes DONE. -/
def Obligations.RestoreCompletionUnwinds : Prop :=
  ∀ (s : State) (u : UndoRec) (us : List UndoRec), Inv s → s.engine.inFlight = some ⟨.restore u.prior, u.index⟩ →
    s.batch.undo = u :: us → s.cmdQueue = [] → ∃ t, exec .restoreCompletion s = .next t ∧
      t.entries = setEntry s.entries u.index { s.entries[u.index] with value := u.prior, held := false }
        ∧ t.batch.undo = us ∧ t.events = s.events ∧ t.flags = s.flags ∧ (∀ i : Fin 32, committed t i = committed s i)
        ∧ t.link = s.link ∧ t.interval = s.interval
        ∧ (∀ (v : UndoRec) (vs : List UndoRec), us = v :: vs →
          t.batch.phase = .unwinding ∧ t.ring = s.ring ∧ t.seq = s.seq
            ∧ ((∀ ch : Fin 8, s.chans[ch].units = 0) → t.engine.inFlight = some ⟨.restore v.prior, v.index⟩))
        ∧ (us = [] → t.batch.phase = (if s.batch.cause = .void then .void else .none) ∧ t.seq = .idle
          ∧ t.window.irqFlag.quiet = true
          ∧ (∀ (r : CmdRec) (op : Opcode), s.seq = .unwinding (some r) → opcodeOf r.code = some op → s.owed = true →
            t.ring = s.ring ++ [⟨r.ops.tag, opcodeByte op, .done, s.flags⟩])
          ∧ ((s.seq = .unwinding none ∨ s.owed = false) → t.ring = s.ring))
        ∧ (∀ ch : Fin 8, eligible { s with entries := t.entries } ch = true → ∃ c w d g,
          t.engine.inFlight = some ⟨.post c w d, g⟩)

/-! ### Takes by the sequencer -/

/-- R96, R99: a take row acts on the record when the sequencer can take it: the record leaves the queue, is put through
its checks, and the sequencer passes on when the command leaves its hand; otherwise nothing happens (log 3). The posts that a
COMMIT releases reach a FREE engine before a command taken behind it (log 23). -/
def Obligations.TakeThenPassOn : Prop :=
  ∀ (op : Opcode) (o : Operands) (s : State),
    (canTake (recordOf op o) s = false → exec (takeRow op o) s = .next s)
      ∧ (canTake (recordOf op o) s = true → s.cmdQueue.length ≤ 15 →
        exec (takeRow op o) s = .next
          (let t := take op o { s with cmdQueue := s.cmdQueue.tail, owed := true }
           if hasCommand t then t else passOn true t))
      ∧ (canTake (recordOf op o) s = true → s.cmdQueue.length = 16 →
        exec (takeRow op o) s = .next
          (let t := take op o { s with
             cmdQueue := s.cmdQueue.tail, owed := true
             window := { s.window with irqFlag := { s.window.irqFlag with space := true } } }
           if hasCommand t then t else passOn true t))

/-- R71, R123: in VOID every command is refused VOID, whatever its class, condition and operands, and nothing else changes
but that a COMMIT or ABORT closes the void. -/
def Obligations.VoidRefusesEveryCommand : Prop :=
  ∀ (op : Opcode) (o : Operands) (s : State), s.batch.phase = .void →
    take op o s = recorded op o .void
        (if op = .batchCommit ∨ op = .batchAbort then { s with batch := { s.batch with phase := .none } } else s)
      ∧ (LastTake op o s → exec (takeRow op o) s = .next (completed op o .void
        (if op = .batchCommit ∨ op = .batchAbort then { s with batch := { s.batch with phase := .none } } else s)))

/-- R72: a command whose condition is false completes SKIPPED and does nothing, before any check of its class or of the
state. -/
def Obligations.FalseConditionSkips : Prop :=
  ∀ (op : Opcode) (o : Operands) (s : State), s.batch.phase = .none ∨ s.batch.phase = .opened →
    condHolds o.cond s.flags = false →
    take op o s = recorded op o .skipped s
      ∧ (LastTake op o s → exec (takeRow op o) s = .next (completed op o .skipped s))

/-- R73: configuration commands are refused IN_BATCH in OPEN, BATCH OPEN BAD_STATE in OPEN, COMMIT and ABORT BAD_STATE in
NONE, with no other change; every other command passes the check of its class. -/
def Obligations.ClassRefusals : Prop :=
  ∀ (op : Opcode) (o : Operands) (s : State), condHolds o.cond s.flags = true →
    (isConfig op = true → s.batch.phase = .opened → take op o s = recorded op o .inBatch s
        ∧ (LastTake op o s → exec (takeRow op o) s = .next (completed op o .inBatch s)))
      ∧ (op = .batchOpen → s.batch.phase = .opened → take op o s = recorded op o .badState s
        ∧ (LastTake op o s → exec (takeRow op o) s = .next (completed op o .badState s)))
      ∧ ((op = .batchCommit ∨ op = .batchAbort) → s.batch.phase = .none → take op o s = recorded op o .badState s
        ∧ (LastTake op o s → exec (takeRow op o) s = .next (completed op o .badState s)))
      ∧ (isConfig op = false → op ≠ .batchOpen → op ≠ .batchCommit → op ≠ .batchAbort →
        classRefusal op s.batch.phase = none)
      ∧ (isConfig op = true ∨ op = .batchOpen → classRefusal op .none = none)
      ∧ (op = .batchCommit ∨ op = .batchAbort → classRefusal op .opened = none)

/-- R92: MARK does nothing and completes DONE; in VOID it is refused VOID, and with a false condition SKIPPED. -/
def Obligations.MarkCompletes : Prop :=
  ∀ (o : Operands) (s : State) (st : Status),
    st = (if s.batch.phase = .void then .void else if condHolds o.cond s.flags then .done else .skipped) →
    take .mark o s = recorded .mark o st s ∧ (LastTake .mark o s → exec (.mark o) s = .next (completed .mark o st s))

/-- R5–R7, R74, R83, R84: SETATTR replaces the attribute record as a whole, SETTHRESH removes or installs the threshold with
the side of the committed value; what would not fit is refused ATTR_INVALID with no change. -/
def Obligations.EntrySettings : Prop :=
  (∀ (o : Operands) (s : State), LastRun .setattr o s → ∀ a : Attr,
    a = ⟨o.b.toNat % 16, if o.b.getLsbD 4 then .saturate else .wrap,
      if o.i1 = 0xFF then none else some (accOf o.i1), o.b.getLsbD 5⟩ →
    ((s.entries[accOf o.a].value.mag < 10 ^ a.width ∧ (∀ t ∈ s.entries[accOf o.a].threshold, t.value.mag < 10 ^ a.width)
        ∧ (∀ j ∈ a.link, accOf o.a < j ∧ a.policy = .wrap)) →
      exec (.setattr o) s = .next (completed .setattr o .done { s with
        entries := setEntry s.entries (accOf o.a) { s.entries[accOf o.a] with attr := a } }))
      ∧ (¬(s.entries[accOf o.a].value.mag < 10 ^ a.width
          ∧ (∀ t ∈ s.entries[accOf o.a].threshold, t.value.mag < 10 ^ a.width)
          ∧ (∀ j ∈ a.link, accOf o.a < j ∧ a.policy = .wrap)) →
        exec (.setattr o) s = .next (completed .setattr o .attrInvalid s)))
    ∧ ∀ (o : Operands) (s : State), LastRun .setthresh o s →
      (o.b = 0 → exec (.setthresh o) s = .next (completed .setthresh o .done { s with
        entries := setEntry s.entries (accOf o.a) { s.entries[accOf o.a] with threshold := none, side := .below } }))
        ∧ (∀ f : Filter, (o.b = 1 ∧ f = .up) ∨ (o.b = 2 ∧ f = .down) ∨ (o.b = 3 ∧ f = .both) →
          (o.immediate.mag < 10 ^ s.entries[accOf o.a].attr.width →
            exec (.setthresh o) s = .next (completed .setthresh o .done { s with
              entries := setEntry s.entries (accOf o.a) { s.entries[accOf o.a] with
                threshold := some ⟨o.immediate, f⟩
                side := if o.immediate.toInt ≤ (committed s (accOf o.a)).toInt then .atOrAbove else .below } }))
            ∧ (10 ^ s.entries[accOf o.a].attr.width ≤ o.immediate.mag →
              exec (.setthresh o) s = .next (completed .setthresh o .attrInvalid s)))

/-- R52–R54, R85, R86: CHANCONFIG replaces the record and re-arms or disables the channel, or is refused CHANNEL_BUSY;
CHANCLEAR clears the channel's counts and reloads its divider. -/
def Obligations.ChannelSettings : Prop :=
  (∀ (o : Operands) (s : State), LastRun .chanconfig o s → ∀ (ch : Fin 8) (n : ChanRecord),
    ch.val = o.a.toNat →
    n = ⟨o.b.getLsbD 0, if o.b.toNat / 2 % 4 = 1 then .rising else if o.b.toNat / 2 % 4 = 2 then .falling else .both,
      o.i0.toNat % 16, o.i1.toNat + 1,
      o.i2.toNat / 16 * 1000 + o.i2.toNat % 16 * 100 + o.i3.toNat / 16 * 10 + o.i3.toNat % 16,
      if o.b.getLsbD 3 then .subtract else .add, accOf o.i4⟩ →
    (0 < s.chans[ch].units → n.target ≠ s.chans[ch].record.target ∨ n.weight ≠ s.chans[ch].record.weight
        ∨ n.dir ≠ s.chans[ch].record.dir →
      exec (.chanconfig o) s = .next (completed .chanconfig o .channelBusy s))
      ∧ (s.chans[ch].units = 0 ∨ (n.target = s.chans[ch].record.target ∧ n.weight = s.chans[ch].record.weight
          ∧ n.dir = s.chans[ch].record.dir) →
        exec (.chanconfig o) s = .next (completed .chanconfig o .done { s with
          chans := setChan s.chans ch (if n.enable
            then { s.chans[ch] with record := n, divCount := n.divider, input := .arming }
            else { s.chans[ch] with record := n, divCount := min s.chans[ch].divCount n.divider, input := .disabled }) })))
    ∧ ∀ (o : Operands) (s : State), LastRun .chanclear o s → ∀ ch : Fin 8, ch.val = o.a.toNat →
      exec (.chanclear o) s = .next (completed .chanclear o .done (refreshPostReq { s with
        chans := setChan s.chans ch { s.chans[ch] with
          units := 0, dropped := 0, overrun := false, divCount := s.chans[ch].record.divider, rate := 0, rateLatch := 0 } }))

/-- R87, R112: BATCH OPEN opens a batch with an empty undo stack and loads its timer from BATCHLIMIT, 0 giving none. -/
def Obligations.BatchOpens : Prop :=
  ∀ (o : Operands) (s : State), LastRun .batchOpen o s →
    exec (.batchOpen o) s = .next (completed .batchOpen o .done { s with
      batch := { s.batch with
        phase := .opened, undo := [], member := false, deferred := false
        timer := if s.batchLimit.value = 0 then none else some s.batchLimit.value.toNat } })

/-- R88, R116: COMMIT keeps every value, evaluates the thresholds of the entries written from the oldest record to the
newest, clears every marker, empties the stack, and ends in NONE with DONE. R23, R56, R57: every channel with pending units is
then eligible: the scheduler's request is asserted, waits at a busy engine, and at a FREE one starts the post of the first such
channel from the pointer upward. -/
def Obligations.BatchCommits : Prop :=
  ∀ (o : Operands) (s : State), LastRun .batchCommit o s → (engineFree s = true → s.engine.cmdReq = false) →
    ∃ t, exec (.batchCommit o) s = .next t ∧
      (∀ i : Fin 32, t.entries[i] = { s.entries[i] with
        held := false
        side := (evaluateAll s.entries (s.batch.undo.reverse.map fun u => u.index)).1[i].side })
        ∧ t = completed .batchCommit o .done (
          let u := appendAll (evaluateAll s.entries (s.batch.undo.reverse.map fun u => u.index)).2 s;
          { s with
            entries := t.entries, events := u.events, window := u.window
            batch := { s.batch with phase := .none, undo := [], timer := none }
            engine := t.engine, chans := t.chans, schedPtr := t.schedPtr })
        ∧ ((∀ ch : Fin 8, s.chans[ch].units = 0) →
          t.engine = { s.engine with postReq := false } ∧ t.chans = s.chans ∧ t.schedPtr = s.schedPtr)
        ∧ ∀ ch : Fin 8, 0 < s.chans[ch].units →
          (engineFree s = false →
            t.engine = { s.engine with postReq := true } ∧ t.chans = s.chans ∧ t.schedPtr = s.schedPtr)
            ∧ (engineFree s = true → (∀ k : Fin 8, k < ch - s.schedPtr → s.chans[s.schedPtr + k].units = 0) →
              t.chans = setChan s.chans ch { s.chans[ch] with units := s.chans[ch].units - 1 } ∧ t.schedPtr = ch + 1
                ∧ t.engine = ⟨some ⟨.post ch s.chans[ch].record.weight s.chans[ch].record.dir,
                  s.chans[ch].record.target⟩, .post, t.engine.postReq, false⟩
                ∧ (t.engine.postReq = true ↔ ∃ k : Fin 8, 0 < t.chans[k].units))

/-- R89, R117, R118: ABORT stops the timer and starts unwinding with the newest record, staying in hand with its completion
owed; with an empty stack it completes DONE at once. -/
def Obligations.BatchAborts : Prop :=
  ∀ (o : Operands) (s : State), LastRun .batchAbort o s →
    (s.batch.undo = [] → exec (.batchAbort o) s = .next (completed .batchAbort o .done { s with
      batch := { s.batch with phase := .none, cause := .abort, timer := none } }))
      ∧ (∀ (u : UndoRec) (us : List UndoRec), s.batch.undo = u :: us → engineFree s = false →
        exec (.batchAbort o) s = .next { s with
          cmdQueue := [], owed := true, seq := .unwinding (some (recordOf .batchAbort o))
          batch := { s.batch with phase := .unwinding, cause := .abort, timer := none }
          engine := { s.engine with cmdReq := true } })
      ∧ (∀ (u : UndoRec) (us : List UndoRec), s.batch.undo = u :: us → engineFree s = true →
        s.engine.postReq = false →
        exec (.batchAbort o) s = .next { s with
          cmdQueue := [], owed := true, seq := .unwinding (some (recordOf .batchAbort o))
          batch := { s.batch with phase := .unwinding, cause := .abort, timer := none }
          engine := ⟨some ⟨.restore u.prior, u.index⟩, .command, false, false⟩ })

/-- R90, R91, R161, R162, R165: REPORT appends a ONE_SHOT job, whose frame starts at once on an IDLE link, or is refused
REPORT_FULL at 8 jobs; REPORT PERIODIC replaces or removes the template. -/
def Obligations.ReportsQueueJobs : Prop :=
  (∀ (o : Operands) (s : State), LastRun .report o s → ∀ j : Job,
    j = ⟨o.tag, false, (([o.b, o.i0, o.i1, o.i2, o.i3, o.i4, o.i5, o.i6]).take o.a.toNat).map accOf⟩ →
    (8 ≤ s.link.jobs.length → exec (.report o) s = .next (completed .report o .reportFull s))
      ∧ (s.link.jobs.length < 8 → s.link.state ≠ .idle → exec (.report o) s = .next (completed .report o .done { s with
        link := { s.link with jobs := s.link.jobs ++ [j] } }))
      ∧ (∀ (k : Job) (ks : List Job), s.link.jobs.length < 8 → s.link.state = .idle → s.link.jobs ++ [j] = k :: ks →
        ∃ t, exec (.report o) s = .next t
          ∧ t = completed .report o .done { s with link := { s.link with jobs := k :: ks, state := t.link.state } }
          ∧ FrameStarted s k 1 t.link.state))
    ∧ ∀ (o : Operands) (s : State), LastRun .reportPeriodic o s →
      exec (.reportPeriodic o) s = .next (completed .reportPeriodic o .done { s with
        link := { s.link with template := (if o.a = 0 then none else
          some ⟨o.tag, true, (([o.b, o.i0, o.i1, o.i2, o.i3, o.i4, o.i5, o.i6]).take o.a.toNat).map accOf⟩) } })

/-- R27, R75, R78–R82, R97, R113, R114, R122: an arithmetic command asks for the engine and is granted at once when it is
FREE, its source read then, and waits otherwise; in an open batch it is the member in flight; without undo space it is
refused UNDO_FULL and the batch voided, with a BATCH_VOID event of detail 1. -/
def Obligations.ArithmeticTakes : Prop :=
  ∀ (op : Opcode) (o : Operands) (s : State), isArith op = true → LastRun op o s →
    ((s.batch.phase = .none ∨ undoShort s (accOf o.a) = false) → engineFree s = false →
      exec (takeRow op o) s = .next { s with
        cmdQueue := [], owed := true, seq := .waiting (recordOf op o)
        batch := { s.batch with member := s.batch.member || s.batch.phase == .opened }
        engine := { s.engine with cmdReq := true } })
      ∧ (∀ x : Operation, (s.batch.phase = .none ∨ undoShort s (accOf o.a) = false) → engineFree s = true →
        s.engine.postReq = false →
        x = ⟨match op with
            | .add => .add (o.source s.entries)
            | .sub => .sub (o.source s.entries)
            | .move => .move (o.source s.entries)
            | .negate => .negate
            | .clear => .clear
            | _ => .compare (o.source s.entries), accOf o.a⟩ →
        exec (takeRow op o) s = .next { s with
          cmdQueue := [], owed := true, seq := .executing (recordOf op o)
          batch := { s.batch with member := s.batch.member || s.batch.phase == .opened }
          engine := ⟨some x, .command, false, false⟩ })
      ∧ (∀ (u : UndoRec) (us : List UndoRec), s.batch.phase = .opened → undoShort s (accOf o.a) = true →
        s.batch.undo = u :: us → ∃ t, exec (takeRow op o) s = .next t ∧
          t.batch = { s.batch with phase := .unwinding, cause := .void, timer := none } ∧ t.seq = .unwinding none
            ∧ t.ring = s.ring ++ [⟨o.tag, opcodeByte op, .undoFull, s.flags⟩]
            ∧ t.events = (appendEvent ⟨.batchVoid, 0, 1⟩ s).events ∧ t.entries = s.entries ∧ t.flags = s.flags
            ∧ (engineFree s = false → t.engine = { s.engine with cmdReq := true })
            ∧ (engineFree s = true → s.engine.postReq = false →
              t.engine = ⟨some ⟨.restore u.prior, u.index⟩, .command, false, false⟩))
      ∧ (s.batch.phase = .opened → undoShort s (accOf o.a) = true → s.batch.undo = [] →
        ∃ t, exec (takeRow op o) s = .next t ∧
          t.batch = { s.batch with phase := .void, cause := .void, timer := none } ∧ t.seq = .idle
            ∧ t.ring = s.ring ++ [⟨o.tag, opcodeByte op, .undoFull, s.flags⟩]
            ∧ t.events = (appendEvent ⟨.batchVoid, 0, 1⟩ s).events ∧ t.entries = s.entries ∧ t.flags = s.flags
            ∧ t.engine = s.engine)

/-! ### The register window -/

/-- R65, R70, R94, R180: a submit write: MALFORMED first, then QUEUE_FULL, then ACCEPTED, when a copy of the staged bytes
joins the tail; while a command is in hand nothing else happens. -/
def Obligations.SubmitDecides : Prop :=
  ∀ (v : Byte) (s : State), s.rstn = true →
    (malformed s.window.staging = true → exec (.submit v) s = .next { s with
      window := { s.window with submit := .malformed }, link := { s.link with lsPhase := .state } })
      ∧ (malformed s.window.staging = false → 16 ≤ s.cmdQueue.length → exec (.submit v) s = .next { s with
        window := { s.window with submit := .queueFull }, link := { s.link with lsPhase := .state } })
      ∧ (malformed s.window.staging = false → s.cmdQueue.length < 16 →
        (hasCommand s = true → exec (.submit v) s = .next { s with
          cmdQueue := s.cmdQueue ++ [s.window.staging]
          window := { s.window with submit := .accepted }, link := { s.link with lsPhase := .state } })
          ∧ (Inv s → s.seq = .stalled → exec (.submit v) s = .next { s with
            cmdQueue := s.cmdQueue ++ [s.window.staging]
            window := { s.window with submit := .accepted }, link := { s.link with lsPhase := .state } })
          ∧ (Inv s → s.seq = .unwinding none → exec (.submit v) s = .next { s with
            cmdQueue := s.cmdQueue ++ [s.window.staging]
            window := { s.window with submit := .accepted }, link := { s.link with lsPhase := .state } })
          ∧ (Inv s → s.seq = .idle → s.ring.length = 16 → exec (.submit v) s = .next { s with
            cmdQueue := [s.window.staging], seq := .stalled
            window := { s.window with submit := .accepted }, link := { s.link with lsPhase := .state } })
          ∧ (∀ op : Opcode, Inv s → s.seq = .idle → s.ring.length < 16 → opcodeOf s.window.staging.code = some op →
            exec (.submit v) s = exec (takeRow op s.window.staging.ops) { s with
              window := { s.window with submit := .accepted }, link := { s.link with lsPhase := .state } }))

/-- R100, R103: a pop removes the head of the ring, is ignored on an empty ring, and lets a STALLED sequencer take; at any
other time it changes only the ring. -/
def Obligations.CompletionPop : Prop :=
  ∀ (v : Byte) (s : State), Inv s → s.rstn = true →
    (s.ring = [] → exec (.comppop v) s = .next { s with link := { s.link with lsPhase := .state } })
      ∧ (∀ (c : Completion) (rest : List Completion), s.ring = c :: rest →
        (s.seq ≠ .stalled → exec (.comppop v) s = .next { s with
          ring := rest, link := { s.link with lsPhase := .state } })
          ∧ (∀ (r : CmdRec) (q : List CmdRec) (op : Opcode), s.seq = .stalled → s.cmdQueue = r :: q →
            opcodeOf r.code = some op →
            exec (.comppop v) s = exec (takeRow op r.ops) { s with
              ring := rest, link := { s.link with lsPhase := .state } }))

/-- R143, R145: a pop of the event queue: ignored when empty; the head removed; and with a nonzero lost count a LOST record
with the count in the freed place, EVT set. -/
def Obligations.EventPop : Prop :=
  ∀ (v : Byte) (s : State), s.rstn = true →
    (s.events.records = [] → exec (.evtpop v) s = .next { s with link := { s.link with lsPhase := .state } })
      ∧ ∀ (e : EventRec) (rest : List EventRec), s.events.records = e :: rest →
        (s.events.lost = 0 → exec (.evtpop v) s = .next { s with
          events := { s.events with records := rest }, link := { s.link with lsPhase := .state } })
          ∧ (s.events.lost ≠ 0 → exec (.evtpop v) s = .next { s with
            events := ⟨rest ++ [⟨s.events.nextSeq, ⟨.lost, 0, byteOf s.events.lost⟩⟩], 0, s.events.nextSeq + 1⟩
            window := { s.window with irqFlag := { s.window.irqFlag with evt := true } }
            link := { s.link with lsPhase := .state } })

/-- R189, R190: a write of IRQFLAG clears the flags written 1; a write of IRQEN replaces the enables; IRQn is low exactly
while a flag is set together with its enable. -/
def Obligations.InterruptRegisters : Prop :=
  ∀ (v : Byte) (s : State), s.rstn = true →
    exec (.irqflag v) s = .next { s with
      window := { s.window with irqFlag :=
        ⟨s.window.irqFlag.comp && !v.getLsbD 0, s.window.irqFlag.evt && !v.getLsbD 1,
          s.window.irqFlag.space && !v.getLsbD 2, s.window.irqFlag.quiet && !v.getLsbD 3⟩ }
      link := { s.link with lsPhase := .state } }
      ∧ exec (.irqen v) s = .next { s with
        window := { s.window with irqEn := ⟨v.getLsbD 0, v.getLsbD 1, v.getLsbD 2, v.getLsbD 3⟩ }
        link := { s.link with lsPhase := .state } }
      ∧ (irqnLow s = true ↔ s.window.irqFlag.toByte &&& s.window.irqEn.toByte ≠ 0)

/-- R182: a write of CONTROL with bit 0 set is an interface reset, which RSTn going low makes too, complete when the write
is: the window is in its reset state with IRQn released; with bit 0 clear it has no effect; CONTROL reads 00h. That a
REGISTER_WRITE of CONTROL with bit 0 set is the INIT row is log 15, and that an INIT with bit 0 clear is the write without
effect is the model's choice, log 16. -/
def Obligations.InitResetsInterface : Prop :=
  ∀ (v : Byte) (s : State), s.rstn = true →
    (v.getLsbD 0 = false → exec (.init v) s = .next { s with link := { s.link with lsPhase := .state } }
      ∧ exec (.registerWrite 0x01 v) s = .next { s with link := { s.link with lsPhase := .state } })
      ∧ (v.getLsbD 0 = true → ∃ t, exec (.init v) s = .next t ∧ exec .interfaceReset s = .next { t with rstn := false }
        ∧ exec (.registerWrite 0x01 v) s = .next t ∧ t.rstn = true ∧ t.window = Window.cleared ∧ irqnLow t = false)
      ∧ exec (.readAccess 0x01) s = .next { s with busOut := 0, link := { s.link with lsPhase := .state } }

/-- R178, R187, R188: a capture copies the selected record into its buffer at one instant and returns the first byte. -/
def Obligations.CapturesCopyRecords : Prop :=
  ∀ s : State, s.rstn = true →
    (∀ i : Fin 32, i.val = s.window.accSel.toNat → exec .accumulatorCapture s = .next { s with
      window := { s.window with accBuf :=
        #v[byteOf ((if s.entries[i].value.neg then 128 else 0) + (if s.entries[i].held then 64 else 0)
            + s.entries[i].attr.width % 16),
          s.entries[i].value.digitPair 5, s.entries[i].value.digitPair 4, s.entries[i].value.digitPair 3,
          s.entries[i].value.digitPair 2, s.entries[i].value.digitPair 1, s.entries[i].value.digitPair 0] }
      busOut := byteOf ((if s.entries[i].value.neg then 128 else 0) + (if s.entries[i].held then 64 else 0)
        + s.entries[i].attr.width % 16)
      link := { s.link with lsPhase := .state } })
      ∧ ∀ ch : Fin 8, ch.val = s.window.chSel.toNat → exec .channelCapture s = .next { s with
        window := { s.window with chBuf :=
          #v[byteOf ((if s.chans[ch].record.enable then 1 else 0) + (if s.chans[ch].overrun then 2 else 0)),
            byteOf s.chans[ch].units, byteOf (s.chans[ch].dropped / 256), byteOf s.chans[ch].dropped,
            byteOf (s.chans[ch].rateLatch / 256), byteOf s.chans[ch].rateLatch, byteOf (s.chans[ch].divCount - 1)] }
        busOut := byteOf ((if s.chans[ch].record.enable then 1 else 0) + (if s.chans[ch].overrun then 2 else 0))
        link := { s.link with lsPhase := .state } }

/-- R153, R175: the paired reads: LINKSTATUS gives the state byte and latches the head tag, then gives the tag; INTCOUNT
gives the high byte and latches the low one. -/
def Obligations.PairedReads : Prop :=
  ∀ s : State, s.rstn = true →
    (s.link.lsPhase = .state → exec .linkstatus s = .next { s with
      link := { s.link with lsPhase := .tag, tagLatch := ((s.link.jobs.head?.map fun j => j.tag).getD 0) }
      busOut := byteOf ((match s.link.state with | .off => 0 | .idle => 1 | .ready _ => 2 | .sending _ => 3)
        + (if s.link.jobs = [] then 0 else 4) + (if s.link.template.isSome then 8 else 0)) })
      ∧ (s.link.lsPhase = .tag → exec .linkstatus s = .next { s with
        link := { s.link with lsPhase := .state }, busOut := s.link.tagLatch })
      ∧ exec .intcount s = .next { s with
        interval := { s.interval with latch := s.interval.count.setWidth 8 }
        busOut := (s.interval.count >>> 8).setWidth 8, link := { s.link with lsPhase := .state } }

/-- R157: a write of INTERVAL's low byte replaces the length; the count is loaded from it only when the timer is parked with
count 0 and the new length is not 0, and is kept in every other state. -/
def Obligations.IntervalWrites : Prop :=
  ∀ (v : Byte) (s : State) (n : Half), s.rstn = true → n = s.interval.hold ++ v →
    (s.interval.run = true → s.interval.count = 0 → n ≠ 0 → exec (.intervalWrite v) s = .next { s with
      interval := { s.interval with length := n, count := n }, link := { s.link with lsPhase := .state } })
      ∧ (s.interval.run = false ∨ s.interval.count ≠ 0 ∨ n = 0 → exec (.intervalWrite v) s = .next { s with
        interval := { s.interval with length := n }, link := { s.link with lsPhase := .state } })

/-- R156: a write of TBCTRL sets run and the interval-event enable; a start loads the count from the length, and every
other write keeps it. -/
def Obligations.TbctrlWrites : Prop :=
  ∀ (v : Byte) (s : State), s.rstn = true →
    (s.interval.run = false → v.getLsbD 0 = true → exec (.tbctrl v) s = .next { s with
      interval := { s.interval with run := true, evEnable := v.getLsbD 1, count := s.interval.length }
      link := { s.link with lsPhase := .state } })
      ∧ (s.interval.run = true ∨ v.getLsbD 0 = false → exec (.tbctrl v) s = .next { s with
        interval := { s.interval with run := v.getLsbD 0, evEnable := v.getLsbD 1 }
        link := { s.link with lsPhase := .state } })

/-- R153, R163, R178, R179, R186: a write of an address without a row of its own: the staged byte, the selects, the holding
bytes, BATCHLIMIT and LINKTIMEOUT change as written, and a write to any other such address changes nothing but the
LINKSTATUS phase. -/
def Obligations.RegisterWrites : Prop :=
  ∀ (a : Addr) (v : Byte) (s : State), s.rstn = true → writeHasRow a v = false → ∃ t, exec (.registerWrite a v) s = .next t ∧
    (∀ p : Nat, p < 12 → stagedByte t.window.staging p = if a.toNat = 4 + p then v else stagedByte s.window.staging p)
      ∧ t.window.accSel.toNat = (if a = 0x20 then v.toNat % 32 else s.window.accSel.toNat)
      ∧ t.window.chSel.toNat = (if a = 0x28 then v.toNat % 8 else s.window.chSel.toNat)
      ∧ t.interval.hold = (if a = 0x31 then v else s.interval.hold)
      ∧ t.batchLimit.hold = (if a = 0x35 then v else s.batchLimit.hold)
      ∧ t.batchLimit.value = (if a = 0x36 then s.batchLimit.hold ++ v else s.batchLimit.value)
      ∧ t.link.timeoutReg = (if a = 0x39 then v else s.link.timeoutReg)
      ∧ t = { s with
        window := { s.window with staging := t.window.staging, accSel := t.window.accSel, chSel := t.window.chSel }
        interval := { s.interval with hold := t.interval.hold }
        batchLimit := t.batchLimit
        link := { s.link with timeoutReg := t.link.timeoutReg, lsPhase := .state } }

/-- R178, R181, R183–R188: a read of an address without a step of its own returns the byte that the address shows and
changes nothing but the bus and the LINKSTATUS phase; W addresses and unlisted ones return 00h. R153, R156, R163, R179, R186,
R189, R190: what the registers that the host writes read as. A READ_ACCESS of an address with a step of its own is that step
(log 15); the bus byte is the model's field (log 10). -/
def Obligations.ReadsShowState : Prop :=
  (∀ s : State, exec (.readAccess 0x21) s = exec .accumulatorCapture s
    ∧ exec (.readAccess 0x29) s = exec .channelCapture s ∧ exec (.readAccess 0x33) s = exec .intcount s
    ∧ exec (.readAccess 0x3A) s = exec .linkstatus s)
  ∧ ∀ (a : Addr) (s : State), s.rstn = true → readHasRow a = false → ∃ b, exec (.readAccess a) s = .next { s with
      busOut := b, link := { s.link with lsPhase := .state } }
    ∧ (a = 0x00 → b.toNat = (if engineFree s then 0 else 1)
        + 2 * (match s.seq with | .idle => 0 | .stalled => 1 | .waiting _ => 2 | .executing _ => 3 | .unwinding _ => 4)
        + 16 * (match s.batch.phase with | .none => 0 | .opened => 1 | .unwinding => 2 | .void => 3)
        + (match s.link.state with | .ready _ => 64 | .sending _ => 64 | _ => 0)
        + (if s.batch.phase = .unwinding ∧ s.batch.cause = .reset then 128 else 0))
      ∧ (a = 0x11 → b = byteOf s.cmdQueue.length) ∧ (a = 0x13 → b = byteOf s.ring.length)
      ∧ (a = 0x19 → b = byteOf s.events.records.length) ∧ (a = 0x1F → b = byteOf s.events.lost)
      ∧ (a = 0x12 → b.toNat = (if s.flags.n then 8 else 0) + (if s.flags.z then 4 else 0) + (if s.flags.c then 2 else 0)
        + (if s.flags.v then 1 else 0))
      ∧ (a = 0x02 → b.toNat = (if s.window.irqFlag.comp then 1 else 0) + (if s.window.irqFlag.evt then 2 else 0)
        + (if s.window.irqFlag.space then 4 else 0) + (if s.window.irqFlag.quiet then 8 else 0))
      ∧ (a = 0x03 → b.toNat = (if s.window.irqEn.comp then 1 else 0) + (if s.window.irqEn.evt then 2 else 0)
        + (if s.window.irqEn.space then 4 else 0) + (if s.window.irqEn.quiet then 8 else 0))
      ∧ (a = 0x20 → b.toNat = s.window.accSel.toNat) ∧ (a = 0x28 → b.toNat = s.window.chSel.toNat)
      ∧ (a = 0x30 → b.toNat = (if s.interval.run then 1 else 0) + (if s.interval.evEnable then 2 else 0))
      ∧ (a = 0x31 → b = (s.interval.length >>> 8).setWidth 8) ∧ (a = 0x32 → b = s.interval.length.setWidth 8)
      ∧ (a = 0x34 → b = s.interval.latch)
      ∧ (a = 0x35 → b = (s.batchLimit.value >>> 8).setWidth 8) ∧ (a = 0x36 → b = s.batchLimit.value.setWidth 8)
      ∧ (a = 0x38 → b = s.link.ctrl) ∧ (a = 0x39 → b = s.link.timeoutReg)
      ∧ (a = 0x10 → b = s.window.submit.code) ∧ (a = 0x3B → b = byteOf s.link.jobs.length)
      ∧ (∀ p : Nat, p < 12 → a.toNat = 4 + p → b = stagedByte s.window.staging p)
      ∧ (∀ p : Fin 7, a.toNat = 0x21 + p.val → b = s.window.accBuf[p])
      ∧ (∀ p : Fin 7, a.toNat = 0x29 + p.val → b = s.window.chBuf[p])
      ∧ (∀ c : Completion, s.ring.head? = some c → (a = 0x14 → b = c.tag) ∧ (a = 0x15 → b = c.code)
        ∧ (a = 0x16 → b = c.status.code) ∧ (a = 0x17 → b = c.flags.toByte))
      ∧ (∀ e : EventRec, s.events.records.head? = some e → (a = 0x1A → b = e.seqNo) ∧ (a = 0x1B → b = e.body.kind.code)
        ∧ (a = 0x1C → b = e.body.index) ∧ (a = 0x1D → b = e.body.detail))
      ∧ (s.ring = [] → a = 0x14 ∨ a = 0x15 ∨ a = 0x16 ∨ a = 0x17 → b = 0)
      ∧ (s.events.records = [] → a = 0x1A ∨ a = 0x1B ∨ a = 0x1C ∨ a = 0x1D → b = 0)
      ∧ (a = 0x01 ∨ a = 0x18 ∨ a = 0x1E ∨ a = 0x37 ∨ a = 0x3C ∨ a = 0x3D ∨ a = 0x3E ∨ a = 0x3F → b = 0)
end

