-- ==== Sys2Proof/Laws/State.lean ====
section
/-! SUPPORT. What each named update of the state does to each field, so that no proof unfolds a record update. -/

namespace Sys2Proof.Machine

/-! ### State.withEntries -/

section

variable (s : State) (x : Vector Entry 32)

@[simp] theorem State.withEntries_entries : (s.withEntries x).entries = x := rfl
@[simp] theorem State.withEntries_chans : (s.withEntries x).chans = s.chans := rfl
@[simp] theorem State.withEntries_schedPtr : (s.withEntries x).schedPtr = s.schedPtr := rfl
@[simp] theorem State.withEntries_engine : (s.withEntries x).engine = s.engine := rfl
@[simp] theorem State.withEntries_cmdQueue : (s.withEntries x).cmdQueue = s.cmdQueue := rfl
@[simp] theorem State.withEntries_seq : (s.withEntries x).seq = s.seq := rfl
@[simp] theorem State.withEntries_owed : (s.withEntries x).owed = s.owed := rfl
@[simp] theorem State.withEntries_flags : (s.withEntries x).flags = s.flags := rfl
@[simp] theorem State.withEntries_ring : (s.withEntries x).ring = s.ring := rfl
@[simp] theorem State.withEntries_batch : (s.withEntries x).batch = s.batch := rfl
@[simp] theorem State.withEntries_events : (s.withEntries x).events = s.events := rfl
@[simp] theorem State.withEntries_timebase : (s.withEntries x).timebase = s.timebase := rfl
@[simp] theorem State.withEntries_interval : (s.withEntries x).interval = s.interval := rfl
@[simp] theorem State.withEntries_batchLimit : (s.withEntries x).batchLimit = s.batchLimit := rfl
@[simp] theorem State.withEntries_link : (s.withEntries x).link = s.link := rfl
@[simp] theorem State.withEntries_window : (s.withEntries x).window = s.window := rfl
@[simp] theorem State.withEntries_rstn : (s.withEntries x).rstn = s.rstn := rfl
@[simp] theorem State.withEntries_busOut : (s.withEntries x).busOut = s.busOut := rfl
@[simp] theorem State.withEntries_freeCount : (s.withEntries x).freeCount = s.freeCount := rfl
@[simp] theorem State.withEntries_pending : (s.withEntries x).pending = s.pending := rfl

end

/-! ### State.withChans -/

section

variable (s : State) (x : Vector Channel 8)

@[simp] theorem State.withChans_entries : (s.withChans x).entries = s.entries := rfl
@[simp] theorem State.withChans_chans : (s.withChans x).chans = x := rfl
@[simp] theorem State.withChans_schedPtr : (s.withChans x).schedPtr = s.schedPtr := rfl
@[simp] theorem State.withChans_engine : (s.withChans x).engine = s.engine := rfl
@[simp] theorem State.withChans_cmdQueue : (s.withChans x).cmdQueue = s.cmdQueue := rfl
@[simp] theorem State.withChans_seq : (s.withChans x).seq = s.seq := rfl
@[simp] theorem State.withChans_owed : (s.withChans x).owed = s.owed := rfl
@[simp] theorem State.withChans_flags : (s.withChans x).flags = s.flags := rfl
@[simp] theorem State.withChans_ring : (s.withChans x).ring = s.ring := rfl
@[simp] theorem State.withChans_batch : (s.withChans x).batch = s.batch := rfl
@[simp] theorem State.withChans_events : (s.withChans x).events = s.events := rfl
@[simp] theorem State.withChans_timebase : (s.withChans x).timebase = s.timebase := rfl
@[simp] theorem State.withChans_interval : (s.withChans x).interval = s.interval := rfl
@[simp] theorem State.withChans_batchLimit : (s.withChans x).batchLimit = s.batchLimit := rfl
@[simp] theorem State.withChans_link : (s.withChans x).link = s.link := rfl
@[simp] theorem State.withChans_window : (s.withChans x).window = s.window := rfl
@[simp] theorem State.withChans_rstn : (s.withChans x).rstn = s.rstn := rfl
@[simp] theorem State.withChans_busOut : (s.withChans x).busOut = s.busOut := rfl
@[simp] theorem State.withChans_freeCount : (s.withChans x).freeCount = s.freeCount := rfl
@[simp] theorem State.withChans_pending : (s.withChans x).pending = s.pending := rfl

end

/-! ### State.withSchedPtr -/

section

variable (s : State) (x : Fin 8)

@[simp] theorem State.withSchedPtr_entries : (s.withSchedPtr x).entries = s.entries := rfl
@[simp] theorem State.withSchedPtr_chans : (s.withSchedPtr x).chans = s.chans := rfl
@[simp] theorem State.withSchedPtr_schedPtr : (s.withSchedPtr x).schedPtr = x := rfl
@[simp] theorem State.withSchedPtr_engine : (s.withSchedPtr x).engine = s.engine := rfl
@[simp] theorem State.withSchedPtr_cmdQueue : (s.withSchedPtr x).cmdQueue = s.cmdQueue := rfl
@[simp] theorem State.withSchedPtr_seq : (s.withSchedPtr x).seq = s.seq := rfl
@[simp] theorem State.withSchedPtr_owed : (s.withSchedPtr x).owed = s.owed := rfl
@[simp] theorem State.withSchedPtr_flags : (s.withSchedPtr x).flags = s.flags := rfl
@[simp] theorem State.withSchedPtr_ring : (s.withSchedPtr x).ring = s.ring := rfl
@[simp] theorem State.withSchedPtr_batch : (s.withSchedPtr x).batch = s.batch := rfl
@[simp] theorem State.withSchedPtr_events : (s.withSchedPtr x).events = s.events := rfl
@[simp] theorem State.withSchedPtr_timebase : (s.withSchedPtr x).timebase = s.timebase := rfl
@[simp] theorem State.withSchedPtr_interval : (s.withSchedPtr x).interval = s.interval := rfl
@[simp] theorem State.withSchedPtr_batchLimit : (s.withSchedPtr x).batchLimit = s.batchLimit := rfl
@[simp] theorem State.withSchedPtr_link : (s.withSchedPtr x).link = s.link := rfl
@[simp] theorem State.withSchedPtr_window : (s.withSchedPtr x).window = s.window := rfl
@[simp] theorem State.withSchedPtr_rstn : (s.withSchedPtr x).rstn = s.rstn := rfl
@[simp] theorem State.withSchedPtr_busOut : (s.withSchedPtr x).busOut = s.busOut := rfl
@[simp] theorem State.withSchedPtr_freeCount : (s.withSchedPtr x).freeCount = s.freeCount := rfl
@[simp] theorem State.withSchedPtr_pending : (s.withSchedPtr x).pending = s.pending := rfl

end

/-! ### State.withEngine -/

section

variable (s : State) (x : Engine)

@[simp] theorem State.withEngine_entries : (s.withEngine x).entries = s.entries := rfl
@[simp] theorem State.withEngine_chans : (s.withEngine x).chans = s.chans := rfl
@[simp] theorem State.withEngine_schedPtr : (s.withEngine x).schedPtr = s.schedPtr := rfl
@[simp] theorem State.withEngine_engine : (s.withEngine x).engine = x := rfl
@[simp] theorem State.withEngine_cmdQueue : (s.withEngine x).cmdQueue = s.cmdQueue := rfl
@[simp] theorem State.withEngine_seq : (s.withEngine x).seq = s.seq := rfl
@[simp] theorem State.withEngine_owed : (s.withEngine x).owed = s.owed := rfl
@[simp] theorem State.withEngine_flags : (s.withEngine x).flags = s.flags := rfl
@[simp] theorem State.withEngine_ring : (s.withEngine x).ring = s.ring := rfl
@[simp] theorem State.withEngine_batch : (s.withEngine x).batch = s.batch := rfl
@[simp] theorem State.withEngine_events : (s.withEngine x).events = s.events := rfl
@[simp] theorem State.withEngine_timebase : (s.withEngine x).timebase = s.timebase := rfl
@[simp] theorem State.withEngine_interval : (s.withEngine x).interval = s.interval := rfl
@[simp] theorem State.withEngine_batchLimit : (s.withEngine x).batchLimit = s.batchLimit := rfl
@[simp] theorem State.withEngine_link : (s.withEngine x).link = s.link := rfl
@[simp] theorem State.withEngine_window : (s.withEngine x).window = s.window := rfl
@[simp] theorem State.withEngine_rstn : (s.withEngine x).rstn = s.rstn := rfl
@[simp] theorem State.withEngine_busOut : (s.withEngine x).busOut = s.busOut := rfl
@[simp] theorem State.withEngine_freeCount : (s.withEngine x).freeCount = s.freeCount := rfl
@[simp] theorem State.withEngine_pending : (s.withEngine x).pending = s.pending := rfl

end

/-! ### State.withCmdQueue -/

section

variable (s : State) (x : List CmdRec)

@[simp] theorem State.withCmdQueue_entries : (s.withCmdQueue x).entries = s.entries := rfl
@[simp] theorem State.withCmdQueue_chans : (s.withCmdQueue x).chans = s.chans := rfl
@[simp] theorem State.withCmdQueue_schedPtr : (s.withCmdQueue x).schedPtr = s.schedPtr := rfl
@[simp] theorem State.withCmdQueue_engine : (s.withCmdQueue x).engine = s.engine := rfl
@[simp] theorem State.withCmdQueue_cmdQueue : (s.withCmdQueue x).cmdQueue = x := rfl
@[simp] theorem State.withCmdQueue_seq : (s.withCmdQueue x).seq = s.seq := rfl
@[simp] theorem State.withCmdQueue_owed : (s.withCmdQueue x).owed = s.owed := rfl
@[simp] theorem State.withCmdQueue_flags : (s.withCmdQueue x).flags = s.flags := rfl
@[simp] theorem State.withCmdQueue_ring : (s.withCmdQueue x).ring = s.ring := rfl
@[simp] theorem State.withCmdQueue_batch : (s.withCmdQueue x).batch = s.batch := rfl
@[simp] theorem State.withCmdQueue_events : (s.withCmdQueue x).events = s.events := rfl
@[simp] theorem State.withCmdQueue_timebase : (s.withCmdQueue x).timebase = s.timebase := rfl
@[simp] theorem State.withCmdQueue_interval : (s.withCmdQueue x).interval = s.interval := rfl
@[simp] theorem State.withCmdQueue_batchLimit : (s.withCmdQueue x).batchLimit = s.batchLimit := rfl
@[simp] theorem State.withCmdQueue_link : (s.withCmdQueue x).link = s.link := rfl
@[simp] theorem State.withCmdQueue_window : (s.withCmdQueue x).window = s.window := rfl
@[simp] theorem State.withCmdQueue_rstn : (s.withCmdQueue x).rstn = s.rstn := rfl
@[simp] theorem State.withCmdQueue_busOut : (s.withCmdQueue x).busOut = s.busOut := rfl
@[simp] theorem State.withCmdQueue_freeCount : (s.withCmdQueue x).freeCount = s.freeCount := rfl
@[simp] theorem State.withCmdQueue_pending : (s.withCmdQueue x).pending = s.pending := rfl

end

/-! ### State.withSeq -/

section

variable (s : State) (x : SeqState)

@[simp] theorem State.withSeq_entries : (s.withSeq x).entries = s.entries := rfl
@[simp] theorem State.withSeq_chans : (s.withSeq x).chans = s.chans := rfl
@[simp] theorem State.withSeq_schedPtr : (s.withSeq x).schedPtr = s.schedPtr := rfl
@[simp] theorem State.withSeq_engine : (s.withSeq x).engine = s.engine := rfl
@[simp] theorem State.withSeq_cmdQueue : (s.withSeq x).cmdQueue = s.cmdQueue := rfl
@[simp] theorem State.withSeq_seq : (s.withSeq x).seq = x := rfl
@[simp] theorem State.withSeq_owed : (s.withSeq x).owed = s.owed := rfl
@[simp] theorem State.withSeq_flags : (s.withSeq x).flags = s.flags := rfl
@[simp] theorem State.withSeq_ring : (s.withSeq x).ring = s.ring := rfl
@[simp] theorem State.withSeq_batch : (s.withSeq x).batch = s.batch := rfl
@[simp] theorem State.withSeq_events : (s.withSeq x).events = s.events := rfl
@[simp] theorem State.withSeq_timebase : (s.withSeq x).timebase = s.timebase := rfl
@[simp] theorem State.withSeq_interval : (s.withSeq x).interval = s.interval := rfl
@[simp] theorem State.withSeq_batchLimit : (s.withSeq x).batchLimit = s.batchLimit := rfl
@[simp] theorem State.withSeq_link : (s.withSeq x).link = s.link := rfl
@[simp] theorem State.withSeq_window : (s.withSeq x).window = s.window := rfl
@[simp] theorem State.withSeq_rstn : (s.withSeq x).rstn = s.rstn := rfl
@[simp] theorem State.withSeq_busOut : (s.withSeq x).busOut = s.busOut := rfl
@[simp] theorem State.withSeq_freeCount : (s.withSeq x).freeCount = s.freeCount := rfl
@[simp] theorem State.withSeq_pending : (s.withSeq x).pending = s.pending := rfl

end

/-! ### State.withOwed -/

section

variable (s : State) (x : Bool)

@[simp] theorem State.withOwed_entries : (s.withOwed x).entries = s.entries := rfl
@[simp] theorem State.withOwed_chans : (s.withOwed x).chans = s.chans := rfl
@[simp] theorem State.withOwed_schedPtr : (s.withOwed x).schedPtr = s.schedPtr := rfl
@[simp] theorem State.withOwed_engine : (s.withOwed x).engine = s.engine := rfl
@[simp] theorem State.withOwed_cmdQueue : (s.withOwed x).cmdQueue = s.cmdQueue := rfl
@[simp] theorem State.withOwed_seq : (s.withOwed x).seq = s.seq := rfl
@[simp] theorem State.withOwed_owed : (s.withOwed x).owed = x := rfl
@[simp] theorem State.withOwed_flags : (s.withOwed x).flags = s.flags := rfl
@[simp] theorem State.withOwed_ring : (s.withOwed x).ring = s.ring := rfl
@[simp] theorem State.withOwed_batch : (s.withOwed x).batch = s.batch := rfl
@[simp] theorem State.withOwed_events : (s.withOwed x).events = s.events := rfl
@[simp] theorem State.withOwed_timebase : (s.withOwed x).timebase = s.timebase := rfl
@[simp] theorem State.withOwed_interval : (s.withOwed x).interval = s.interval := rfl
@[simp] theorem State.withOwed_batchLimit : (s.withOwed x).batchLimit = s.batchLimit := rfl
@[simp] theorem State.withOwed_link : (s.withOwed x).link = s.link := rfl
@[simp] theorem State.withOwed_window : (s.withOwed x).window = s.window := rfl
@[simp] theorem State.withOwed_rstn : (s.withOwed x).rstn = s.rstn := rfl
@[simp] theorem State.withOwed_busOut : (s.withOwed x).busOut = s.busOut := rfl
@[simp] theorem State.withOwed_freeCount : (s.withOwed x).freeCount = s.freeCount := rfl
@[simp] theorem State.withOwed_pending : (s.withOwed x).pending = s.pending := rfl

end

/-! ### State.withFlags -/

section

variable (s : State) (x : FlagWord)

@[simp] theorem State.withFlags_entries : (s.withFlags x).entries = s.entries := rfl
@[simp] theorem State.withFlags_chans : (s.withFlags x).chans = s.chans := rfl
@[simp] theorem State.withFlags_schedPtr : (s.withFlags x).schedPtr = s.schedPtr := rfl
@[simp] theorem State.withFlags_engine : (s.withFlags x).engine = s.engine := rfl
@[simp] theorem State.withFlags_cmdQueue : (s.withFlags x).cmdQueue = s.cmdQueue := rfl
@[simp] theorem State.withFlags_seq : (s.withFlags x).seq = s.seq := rfl
@[simp] theorem State.withFlags_owed : (s.withFlags x).owed = s.owed := rfl
@[simp] theorem State.withFlags_flags : (s.withFlags x).flags = x := rfl
@[simp] theorem State.withFlags_ring : (s.withFlags x).ring = s.ring := rfl
@[simp] theorem State.withFlags_batch : (s.withFlags x).batch = s.batch := rfl
@[simp] theorem State.withFlags_events : (s.withFlags x).events = s.events := rfl
@[simp] theorem State.withFlags_timebase : (s.withFlags x).timebase = s.timebase := rfl
@[simp] theorem State.withFlags_interval : (s.withFlags x).interval = s.interval := rfl
@[simp] theorem State.withFlags_batchLimit : (s.withFlags x).batchLimit = s.batchLimit := rfl
@[simp] theorem State.withFlags_link : (s.withFlags x).link = s.link := rfl
@[simp] theorem State.withFlags_window : (s.withFlags x).window = s.window := rfl
@[simp] theorem State.withFlags_rstn : (s.withFlags x).rstn = s.rstn := rfl
@[simp] theorem State.withFlags_busOut : (s.withFlags x).busOut = s.busOut := rfl
@[simp] theorem State.withFlags_freeCount : (s.withFlags x).freeCount = s.freeCount := rfl
@[simp] theorem State.withFlags_pending : (s.withFlags x).pending = s.pending := rfl

end

/-! ### State.withRing -/

section

variable (s : State) (x : List Completion)

@[simp] theorem State.withRing_entries : (s.withRing x).entries = s.entries := rfl
@[simp] theorem State.withRing_chans : (s.withRing x).chans = s.chans := rfl
@[simp] theorem State.withRing_schedPtr : (s.withRing x).schedPtr = s.schedPtr := rfl
@[simp] theorem State.withRing_engine : (s.withRing x).engine = s.engine := rfl
@[simp] theorem State.withRing_cmdQueue : (s.withRing x).cmdQueue = s.cmdQueue := rfl
@[simp] theorem State.withRing_seq : (s.withRing x).seq = s.seq := rfl
@[simp] theorem State.withRing_owed : (s.withRing x).owed = s.owed := rfl
@[simp] theorem State.withRing_flags : (s.withRing x).flags = s.flags := rfl
@[simp] theorem State.withRing_ring : (s.withRing x).ring = x := rfl
@[simp] theorem State.withRing_batch : (s.withRing x).batch = s.batch := rfl
@[simp] theorem State.withRing_events : (s.withRing x).events = s.events := rfl
@[simp] theorem State.withRing_timebase : (s.withRing x).timebase = s.timebase := rfl
@[simp] theorem State.withRing_interval : (s.withRing x).interval = s.interval := rfl
@[simp] theorem State.withRing_batchLimit : (s.withRing x).batchLimit = s.batchLimit := rfl
@[simp] theorem State.withRing_link : (s.withRing x).link = s.link := rfl
@[simp] theorem State.withRing_window : (s.withRing x).window = s.window := rfl
@[simp] theorem State.withRing_rstn : (s.withRing x).rstn = s.rstn := rfl
@[simp] theorem State.withRing_busOut : (s.withRing x).busOut = s.busOut := rfl
@[simp] theorem State.withRing_freeCount : (s.withRing x).freeCount = s.freeCount := rfl
@[simp] theorem State.withRing_pending : (s.withRing x).pending = s.pending := rfl

end

/-! ### State.withBatch -/

section

variable (s : State) (x : Batch)

@[simp] theorem State.withBatch_entries : (s.withBatch x).entries = s.entries := rfl
@[simp] theorem State.withBatch_chans : (s.withBatch x).chans = s.chans := rfl
@[simp] theorem State.withBatch_schedPtr : (s.withBatch x).schedPtr = s.schedPtr := rfl
@[simp] theorem State.withBatch_engine : (s.withBatch x).engine = s.engine := rfl
@[simp] theorem State.withBatch_cmdQueue : (s.withBatch x).cmdQueue = s.cmdQueue := rfl
@[simp] theorem State.withBatch_seq : (s.withBatch x).seq = s.seq := rfl
@[simp] theorem State.withBatch_owed : (s.withBatch x).owed = s.owed := rfl
@[simp] theorem State.withBatch_flags : (s.withBatch x).flags = s.flags := rfl
@[simp] theorem State.withBatch_ring : (s.withBatch x).ring = s.ring := rfl
@[simp] theorem State.withBatch_batch : (s.withBatch x).batch = x := rfl
@[simp] theorem State.withBatch_events : (s.withBatch x).events = s.events := rfl
@[simp] theorem State.withBatch_timebase : (s.withBatch x).timebase = s.timebase := rfl
@[simp] theorem State.withBatch_interval : (s.withBatch x).interval = s.interval := rfl
@[simp] theorem State.withBatch_batchLimit : (s.withBatch x).batchLimit = s.batchLimit := rfl
@[simp] theorem State.withBatch_link : (s.withBatch x).link = s.link := rfl
@[simp] theorem State.withBatch_window : (s.withBatch x).window = s.window := rfl
@[simp] theorem State.withBatch_rstn : (s.withBatch x).rstn = s.rstn := rfl
@[simp] theorem State.withBatch_busOut : (s.withBatch x).busOut = s.busOut := rfl
@[simp] theorem State.withBatch_freeCount : (s.withBatch x).freeCount = s.freeCount := rfl
@[simp] theorem State.withBatch_pending : (s.withBatch x).pending = s.pending := rfl

end

/-! ### State.withEvents -/

section

variable (s : State) (x : EventQueue)

@[simp] theorem State.withEvents_entries : (s.withEvents x).entries = s.entries := rfl
@[simp] theorem State.withEvents_chans : (s.withEvents x).chans = s.chans := rfl
@[simp] theorem State.withEvents_schedPtr : (s.withEvents x).schedPtr = s.schedPtr := rfl
@[simp] theorem State.withEvents_engine : (s.withEvents x).engine = s.engine := rfl
@[simp] theorem State.withEvents_cmdQueue : (s.withEvents x).cmdQueue = s.cmdQueue := rfl
@[simp] theorem State.withEvents_seq : (s.withEvents x).seq = s.seq := rfl
@[simp] theorem State.withEvents_owed : (s.withEvents x).owed = s.owed := rfl
@[simp] theorem State.withEvents_flags : (s.withEvents x).flags = s.flags := rfl
@[simp] theorem State.withEvents_ring : (s.withEvents x).ring = s.ring := rfl
@[simp] theorem State.withEvents_batch : (s.withEvents x).batch = s.batch := rfl
@[simp] theorem State.withEvents_events : (s.withEvents x).events = x := rfl
@[simp] theorem State.withEvents_timebase : (s.withEvents x).timebase = s.timebase := rfl
@[simp] theorem State.withEvents_interval : (s.withEvents x).interval = s.interval := rfl
@[simp] theorem State.withEvents_batchLimit : (s.withEvents x).batchLimit = s.batchLimit := rfl
@[simp] theorem State.withEvents_link : (s.withEvents x).link = s.link := rfl
@[simp] theorem State.withEvents_window : (s.withEvents x).window = s.window := rfl
@[simp] theorem State.withEvents_rstn : (s.withEvents x).rstn = s.rstn := rfl
@[simp] theorem State.withEvents_busOut : (s.withEvents x).busOut = s.busOut := rfl
@[simp] theorem State.withEvents_freeCount : (s.withEvents x).freeCount = s.freeCount := rfl
@[simp] theorem State.withEvents_pending : (s.withEvents x).pending = s.pending := rfl

end

/-! ### State.withTimebase -/

section

variable (s : State) (x : Timebase)

@[simp] theorem State.withTimebase_entries : (s.withTimebase x).entries = s.entries := rfl
@[simp] theorem State.withTimebase_chans : (s.withTimebase x).chans = s.chans := rfl
@[simp] theorem State.withTimebase_schedPtr : (s.withTimebase x).schedPtr = s.schedPtr := rfl
@[simp] theorem State.withTimebase_engine : (s.withTimebase x).engine = s.engine := rfl
@[simp] theorem State.withTimebase_cmdQueue : (s.withTimebase x).cmdQueue = s.cmdQueue := rfl
@[simp] theorem State.withTimebase_seq : (s.withTimebase x).seq = s.seq := rfl
@[simp] theorem State.withTimebase_owed : (s.withTimebase x).owed = s.owed := rfl
@[simp] theorem State.withTimebase_flags : (s.withTimebase x).flags = s.flags := rfl
@[simp] theorem State.withTimebase_ring : (s.withTimebase x).ring = s.ring := rfl
@[simp] theorem State.withTimebase_batch : (s.withTimebase x).batch = s.batch := rfl
@[simp] theorem State.withTimebase_events : (s.withTimebase x).events = s.events := rfl
@[simp] theorem State.withTimebase_timebase : (s.withTimebase x).timebase = x := rfl
@[simp] theorem State.withTimebase_interval : (s.withTimebase x).interval = s.interval := rfl
@[simp] theorem State.withTimebase_batchLimit : (s.withTimebase x).batchLimit = s.batchLimit := rfl
@[simp] theorem State.withTimebase_link : (s.withTimebase x).link = s.link := rfl
@[simp] theorem State.withTimebase_window : (s.withTimebase x).window = s.window := rfl
@[simp] theorem State.withTimebase_rstn : (s.withTimebase x).rstn = s.rstn := rfl
@[simp] theorem State.withTimebase_busOut : (s.withTimebase x).busOut = s.busOut := rfl
@[simp] theorem State.withTimebase_freeCount : (s.withTimebase x).freeCount = s.freeCount := rfl
@[simp] theorem State.withTimebase_pending : (s.withTimebase x).pending = s.pending := rfl

end

/-! ### State.withInterval -/

section

variable (s : State) (x : IntervalTimer)

@[simp] theorem State.withInterval_entries : (s.withInterval x).entries = s.entries := rfl
@[simp] theorem State.withInterval_chans : (s.withInterval x).chans = s.chans := rfl
@[simp] theorem State.withInterval_schedPtr : (s.withInterval x).schedPtr = s.schedPtr := rfl
@[simp] theorem State.withInterval_engine : (s.withInterval x).engine = s.engine := rfl
@[simp] theorem State.withInterval_cmdQueue : (s.withInterval x).cmdQueue = s.cmdQueue := rfl
@[simp] theorem State.withInterval_seq : (s.withInterval x).seq = s.seq := rfl
@[simp] theorem State.withInterval_owed : (s.withInterval x).owed = s.owed := rfl
@[simp] theorem State.withInterval_flags : (s.withInterval x).flags = s.flags := rfl
@[simp] theorem State.withInterval_ring : (s.withInterval x).ring = s.ring := rfl
@[simp] theorem State.withInterval_batch : (s.withInterval x).batch = s.batch := rfl
@[simp] theorem State.withInterval_events : (s.withInterval x).events = s.events := rfl
@[simp] theorem State.withInterval_timebase : (s.withInterval x).timebase = s.timebase := rfl
@[simp] theorem State.withInterval_interval : (s.withInterval x).interval = x := rfl
@[simp] theorem State.withInterval_batchLimit : (s.withInterval x).batchLimit = s.batchLimit := rfl
@[simp] theorem State.withInterval_link : (s.withInterval x).link = s.link := rfl
@[simp] theorem State.withInterval_window : (s.withInterval x).window = s.window := rfl
@[simp] theorem State.withInterval_rstn : (s.withInterval x).rstn = s.rstn := rfl
@[simp] theorem State.withInterval_busOut : (s.withInterval x).busOut = s.busOut := rfl
@[simp] theorem State.withInterval_freeCount : (s.withInterval x).freeCount = s.freeCount := rfl
@[simp] theorem State.withInterval_pending : (s.withInterval x).pending = s.pending := rfl

end

/-! ### State.withBatchLimit -/

section

variable (s : State) (x : BatchLimit)

@[simp] theorem State.withBatchLimit_entries : (s.withBatchLimit x).entries = s.entries := rfl
@[simp] theorem State.withBatchLimit_chans : (s.withBatchLimit x).chans = s.chans := rfl
@[simp] theorem State.withBatchLimit_schedPtr : (s.withBatchLimit x).schedPtr = s.schedPtr := rfl
@[simp] theorem State.withBatchLimit_engine : (s.withBatchLimit x).engine = s.engine := rfl
@[simp] theorem State.withBatchLimit_cmdQueue : (s.withBatchLimit x).cmdQueue = s.cmdQueue := rfl
@[simp] theorem State.withBatchLimit_seq : (s.withBatchLimit x).seq = s.seq := rfl
@[simp] theorem State.withBatchLimit_owed : (s.withBatchLimit x).owed = s.owed := rfl
@[simp] theorem State.withBatchLimit_flags : (s.withBatchLimit x).flags = s.flags := rfl
@[simp] theorem State.withBatchLimit_ring : (s.withBatchLimit x).ring = s.ring := rfl
@[simp] theorem State.withBatchLimit_batch : (s.withBatchLimit x).batch = s.batch := rfl
@[simp] theorem State.withBatchLimit_events : (s.withBatchLimit x).events = s.events := rfl
@[simp] theorem State.withBatchLimit_timebase : (s.withBatchLimit x).timebase = s.timebase := rfl
@[simp] theorem State.withBatchLimit_interval : (s.withBatchLimit x).interval = s.interval := rfl
@[simp] theorem State.withBatchLimit_batchLimit : (s.withBatchLimit x).batchLimit = x := rfl
@[simp] theorem State.withBatchLimit_link : (s.withBatchLimit x).link = s.link := rfl
@[simp] theorem State.withBatchLimit_window : (s.withBatchLimit x).window = s.window := rfl
@[simp] theorem State.withBatchLimit_rstn : (s.withBatchLimit x).rstn = s.rstn := rfl
@[simp] theorem State.withBatchLimit_busOut : (s.withBatchLimit x).busOut = s.busOut := rfl
@[simp] theorem State.withBatchLimit_freeCount : (s.withBatchLimit x).freeCount = s.freeCount := rfl
@[simp] theorem State.withBatchLimit_pending : (s.withBatchLimit x).pending = s.pending := rfl

end

/-! ### State.withLink -/

section

variable (s : State) (x : Link)

@[simp] theorem State.withLink_entries : (s.withLink x).entries = s.entries := rfl
@[simp] theorem State.withLink_chans : (s.withLink x).chans = s.chans := rfl
@[simp] theorem State.withLink_schedPtr : (s.withLink x).schedPtr = s.schedPtr := rfl
@[simp] theorem State.withLink_engine : (s.withLink x).engine = s.engine := rfl
@[simp] theorem State.withLink_cmdQueue : (s.withLink x).cmdQueue = s.cmdQueue := rfl
@[simp] theorem State.withLink_seq : (s.withLink x).seq = s.seq := rfl
@[simp] theorem State.withLink_owed : (s.withLink x).owed = s.owed := rfl
@[simp] theorem State.withLink_flags : (s.withLink x).flags = s.flags := rfl
@[simp] theorem State.withLink_ring : (s.withLink x).ring = s.ring := rfl
@[simp] theorem State.withLink_batch : (s.withLink x).batch = s.batch := rfl
@[simp] theorem State.withLink_events : (s.withLink x).events = s.events := rfl
@[simp] theorem State.withLink_timebase : (s.withLink x).timebase = s.timebase := rfl
@[simp] theorem State.withLink_interval : (s.withLink x).interval = s.interval := rfl
@[simp] theorem State.withLink_batchLimit : (s.withLink x).batchLimit = s.batchLimit := rfl
@[simp] theorem State.withLink_link : (s.withLink x).link = x := rfl
@[simp] theorem State.withLink_window : (s.withLink x).window = s.window := rfl
@[simp] theorem State.withLink_rstn : (s.withLink x).rstn = s.rstn := rfl
@[simp] theorem State.withLink_busOut : (s.withLink x).busOut = s.busOut := rfl
@[simp] theorem State.withLink_freeCount : (s.withLink x).freeCount = s.freeCount := rfl
@[simp] theorem State.withLink_pending : (s.withLink x).pending = s.pending := rfl

end

/-! ### State.withWindow -/

section

variable (s : State) (x : Window)

@[simp] theorem State.withWindow_entries : (s.withWindow x).entries = s.entries := rfl
@[simp] theorem State.withWindow_chans : (s.withWindow x).chans = s.chans := rfl
@[simp] theorem State.withWindow_schedPtr : (s.withWindow x).schedPtr = s.schedPtr := rfl
@[simp] theorem State.withWindow_engine : (s.withWindow x).engine = s.engine := rfl
@[simp] theorem State.withWindow_cmdQueue : (s.withWindow x).cmdQueue = s.cmdQueue := rfl
@[simp] theorem State.withWindow_seq : (s.withWindow x).seq = s.seq := rfl
@[simp] theorem State.withWindow_owed : (s.withWindow x).owed = s.owed := rfl
@[simp] theorem State.withWindow_flags : (s.withWindow x).flags = s.flags := rfl
@[simp] theorem State.withWindow_ring : (s.withWindow x).ring = s.ring := rfl
@[simp] theorem State.withWindow_batch : (s.withWindow x).batch = s.batch := rfl
@[simp] theorem State.withWindow_events : (s.withWindow x).events = s.events := rfl
@[simp] theorem State.withWindow_timebase : (s.withWindow x).timebase = s.timebase := rfl
@[simp] theorem State.withWindow_interval : (s.withWindow x).interval = s.interval := rfl
@[simp] theorem State.withWindow_batchLimit : (s.withWindow x).batchLimit = s.batchLimit := rfl
@[simp] theorem State.withWindow_link : (s.withWindow x).link = s.link := rfl
@[simp] theorem State.withWindow_window : (s.withWindow x).window = x := rfl
@[simp] theorem State.withWindow_rstn : (s.withWindow x).rstn = s.rstn := rfl
@[simp] theorem State.withWindow_busOut : (s.withWindow x).busOut = s.busOut := rfl
@[simp] theorem State.withWindow_freeCount : (s.withWindow x).freeCount = s.freeCount := rfl
@[simp] theorem State.withWindow_pending : (s.withWindow x).pending = s.pending := rfl

end

/-! ### State.withRstn -/

section

variable (s : State) (x : Bool)

@[simp] theorem State.withRstn_entries : (s.withRstn x).entries = s.entries := rfl
@[simp] theorem State.withRstn_chans : (s.withRstn x).chans = s.chans := rfl
@[simp] theorem State.withRstn_schedPtr : (s.withRstn x).schedPtr = s.schedPtr := rfl
@[simp] theorem State.withRstn_engine : (s.withRstn x).engine = s.engine := rfl
@[simp] theorem State.withRstn_cmdQueue : (s.withRstn x).cmdQueue = s.cmdQueue := rfl
@[simp] theorem State.withRstn_seq : (s.withRstn x).seq = s.seq := rfl
@[simp] theorem State.withRstn_owed : (s.withRstn x).owed = s.owed := rfl
@[simp] theorem State.withRstn_flags : (s.withRstn x).flags = s.flags := rfl
@[simp] theorem State.withRstn_ring : (s.withRstn x).ring = s.ring := rfl
@[simp] theorem State.withRstn_batch : (s.withRstn x).batch = s.batch := rfl
@[simp] theorem State.withRstn_events : (s.withRstn x).events = s.events := rfl
@[simp] theorem State.withRstn_timebase : (s.withRstn x).timebase = s.timebase := rfl
@[simp] theorem State.withRstn_interval : (s.withRstn x).interval = s.interval := rfl
@[simp] theorem State.withRstn_batchLimit : (s.withRstn x).batchLimit = s.batchLimit := rfl
@[simp] theorem State.withRstn_link : (s.withRstn x).link = s.link := rfl
@[simp] theorem State.withRstn_window : (s.withRstn x).window = s.window := rfl
@[simp] theorem State.withRstn_rstn : (s.withRstn x).rstn = x := rfl
@[simp] theorem State.withRstn_busOut : (s.withRstn x).busOut = s.busOut := rfl
@[simp] theorem State.withRstn_freeCount : (s.withRstn x).freeCount = s.freeCount := rfl
@[simp] theorem State.withRstn_pending : (s.withRstn x).pending = s.pending := rfl

end

/-! ### State.withBusOut -/

section

variable (s : State) (x : Byte)

@[simp] theorem State.withBusOut_entries : (s.withBusOut x).entries = s.entries := rfl
@[simp] theorem State.withBusOut_chans : (s.withBusOut x).chans = s.chans := rfl
@[simp] theorem State.withBusOut_schedPtr : (s.withBusOut x).schedPtr = s.schedPtr := rfl
@[simp] theorem State.withBusOut_engine : (s.withBusOut x).engine = s.engine := rfl
@[simp] theorem State.withBusOut_cmdQueue : (s.withBusOut x).cmdQueue = s.cmdQueue := rfl
@[simp] theorem State.withBusOut_seq : (s.withBusOut x).seq = s.seq := rfl
@[simp] theorem State.withBusOut_owed : (s.withBusOut x).owed = s.owed := rfl
@[simp] theorem State.withBusOut_flags : (s.withBusOut x).flags = s.flags := rfl
@[simp] theorem State.withBusOut_ring : (s.withBusOut x).ring = s.ring := rfl
@[simp] theorem State.withBusOut_batch : (s.withBusOut x).batch = s.batch := rfl
@[simp] theorem State.withBusOut_events : (s.withBusOut x).events = s.events := rfl
@[simp] theorem State.withBusOut_timebase : (s.withBusOut x).timebase = s.timebase := rfl
@[simp] theorem State.withBusOut_interval : (s.withBusOut x).interval = s.interval := rfl
@[simp] theorem State.withBusOut_batchLimit : (s.withBusOut x).batchLimit = s.batchLimit := rfl
@[simp] theorem State.withBusOut_link : (s.withBusOut x).link = s.link := rfl
@[simp] theorem State.withBusOut_window : (s.withBusOut x).window = s.window := rfl
@[simp] theorem State.withBusOut_rstn : (s.withBusOut x).rstn = s.rstn := rfl
@[simp] theorem State.withBusOut_busOut : (s.withBusOut x).busOut = x := rfl
@[simp] theorem State.withBusOut_freeCount : (s.withBusOut x).freeCount = s.freeCount := rfl
@[simp] theorem State.withBusOut_pending : (s.withBusOut x).pending = s.pending := rfl

end

/-! ### State.withFreeCount -/

section

variable (s : State) (x : Nat)

@[simp] theorem State.withFreeCount_entries : (s.withFreeCount x).entries = s.entries := rfl
@[simp] theorem State.withFreeCount_chans : (s.withFreeCount x).chans = s.chans := rfl
@[simp] theorem State.withFreeCount_schedPtr : (s.withFreeCount x).schedPtr = s.schedPtr := rfl
@[simp] theorem State.withFreeCount_engine : (s.withFreeCount x).engine = s.engine := rfl
@[simp] theorem State.withFreeCount_cmdQueue : (s.withFreeCount x).cmdQueue = s.cmdQueue := rfl
@[simp] theorem State.withFreeCount_seq : (s.withFreeCount x).seq = s.seq := rfl
@[simp] theorem State.withFreeCount_owed : (s.withFreeCount x).owed = s.owed := rfl
@[simp] theorem State.withFreeCount_flags : (s.withFreeCount x).flags = s.flags := rfl
@[simp] theorem State.withFreeCount_ring : (s.withFreeCount x).ring = s.ring := rfl
@[simp] theorem State.withFreeCount_batch : (s.withFreeCount x).batch = s.batch := rfl
@[simp] theorem State.withFreeCount_events : (s.withFreeCount x).events = s.events := rfl
@[simp] theorem State.withFreeCount_timebase : (s.withFreeCount x).timebase = s.timebase := rfl
@[simp] theorem State.withFreeCount_interval : (s.withFreeCount x).interval = s.interval := rfl
@[simp] theorem State.withFreeCount_batchLimit : (s.withFreeCount x).batchLimit = s.batchLimit := rfl
@[simp] theorem State.withFreeCount_link : (s.withFreeCount x).link = s.link := rfl
@[simp] theorem State.withFreeCount_window : (s.withFreeCount x).window = s.window := rfl
@[simp] theorem State.withFreeCount_rstn : (s.withFreeCount x).rstn = s.rstn := rfl
@[simp] theorem State.withFreeCount_busOut : (s.withFreeCount x).busOut = s.busOut := rfl
@[simp] theorem State.withFreeCount_freeCount : (s.withFreeCount x).freeCount = x := rfl
@[simp] theorem State.withFreeCount_pending : (s.withFreeCount x).pending = s.pending := rfl

end

/-! ### State.withPending -/

section

variable (s : State) (x : List Instr)

@[simp] theorem State.withPending_entries : (s.withPending x).entries = s.entries := rfl
@[simp] theorem State.withPending_chans : (s.withPending x).chans = s.chans := rfl
@[simp] theorem State.withPending_schedPtr : (s.withPending x).schedPtr = s.schedPtr := rfl
@[simp] theorem State.withPending_engine : (s.withPending x).engine = s.engine := rfl
@[simp] theorem State.withPending_cmdQueue : (s.withPending x).cmdQueue = s.cmdQueue := rfl
@[simp] theorem State.withPending_seq : (s.withPending x).seq = s.seq := rfl
@[simp] theorem State.withPending_owed : (s.withPending x).owed = s.owed := rfl
@[simp] theorem State.withPending_flags : (s.withPending x).flags = s.flags := rfl
@[simp] theorem State.withPending_ring : (s.withPending x).ring = s.ring := rfl
@[simp] theorem State.withPending_batch : (s.withPending x).batch = s.batch := rfl
@[simp] theorem State.withPending_events : (s.withPending x).events = s.events := rfl
@[simp] theorem State.withPending_timebase : (s.withPending x).timebase = s.timebase := rfl
@[simp] theorem State.withPending_interval : (s.withPending x).interval = s.interval := rfl
@[simp] theorem State.withPending_batchLimit : (s.withPending x).batchLimit = s.batchLimit := rfl
@[simp] theorem State.withPending_link : (s.withPending x).link = s.link := rfl
@[simp] theorem State.withPending_window : (s.withPending x).window = s.window := rfl
@[simp] theorem State.withPending_rstn : (s.withPending x).rstn = s.rstn := rfl
@[simp] theorem State.withPending_busOut : (s.withPending x).busOut = s.busOut := rfl
@[simp] theorem State.withPending_freeCount : (s.withPending x).freeCount = s.freeCount := rfl
@[simp] theorem State.withPending_pending : (s.withPending x).pending = x := rfl

end

/-! ### The interrupt flags -/

section

variable (s : State) (x : IrqBits)

@[simp] theorem State.withIrqFlag_entries : (s.withIrqFlag x).entries = s.entries := rfl
@[simp] theorem State.withIrqFlag_chans : (s.withIrqFlag x).chans = s.chans := rfl
@[simp] theorem State.withIrqFlag_schedPtr : (s.withIrqFlag x).schedPtr = s.schedPtr := rfl
@[simp] theorem State.withIrqFlag_engine : (s.withIrqFlag x).engine = s.engine := rfl
@[simp] theorem State.withIrqFlag_cmdQueue : (s.withIrqFlag x).cmdQueue = s.cmdQueue := rfl
@[simp] theorem State.withIrqFlag_seq : (s.withIrqFlag x).seq = s.seq := rfl
@[simp] theorem State.withIrqFlag_owed : (s.withIrqFlag x).owed = s.owed := rfl
@[simp] theorem State.withIrqFlag_flags : (s.withIrqFlag x).flags = s.flags := rfl
@[simp] theorem State.withIrqFlag_ring : (s.withIrqFlag x).ring = s.ring := rfl
@[simp] theorem State.withIrqFlag_batch : (s.withIrqFlag x).batch = s.batch := rfl
@[simp] theorem State.withIrqFlag_events : (s.withIrqFlag x).events = s.events := rfl
@[simp] theorem State.withIrqFlag_timebase : (s.withIrqFlag x).timebase = s.timebase := rfl
@[simp] theorem State.withIrqFlag_interval : (s.withIrqFlag x).interval = s.interval := rfl
@[simp] theorem State.withIrqFlag_batchLimit : (s.withIrqFlag x).batchLimit = s.batchLimit := rfl
@[simp] theorem State.withIrqFlag_link : (s.withIrqFlag x).link = s.link := rfl
@[simp] theorem State.withIrqFlag_window : (s.withIrqFlag x).window = { s.window with irqFlag := x } := rfl
@[simp] theorem State.withIrqFlag_rstn : (s.withIrqFlag x).rstn = s.rstn := rfl
@[simp] theorem State.withIrqFlag_busOut : (s.withIrqFlag x).busOut = s.busOut := rfl
@[simp] theorem State.withIrqFlag_freeCount : (s.withIrqFlag x).freeCount = s.freeCount := rfl
@[simp] theorem State.withIrqFlag_pending : (s.withIrqFlag x).pending = s.pending := rfl

end

section

variable (s : State)

@[simp] theorem setComp_entries : (setComp s).entries = s.entries := rfl
@[simp] theorem setComp_chans : (setComp s).chans = s.chans := rfl
@[simp] theorem setComp_schedPtr : (setComp s).schedPtr = s.schedPtr := rfl
@[simp] theorem setComp_engine : (setComp s).engine = s.engine := rfl
@[simp] theorem setComp_cmdQueue : (setComp s).cmdQueue = s.cmdQueue := rfl
@[simp] theorem setComp_seq : (setComp s).seq = s.seq := rfl
@[simp] theorem setComp_owed : (setComp s).owed = s.owed := rfl
@[simp] theorem setComp_flags : (setComp s).flags = s.flags := rfl
@[simp] theorem setComp_ring : (setComp s).ring = s.ring := rfl
@[simp] theorem setComp_batch : (setComp s).batch = s.batch := rfl
@[simp] theorem setComp_events : (setComp s).events = s.events := rfl
@[simp] theorem setComp_timebase : (setComp s).timebase = s.timebase := rfl
@[simp] theorem setComp_interval : (setComp s).interval = s.interval := rfl
@[simp] theorem setComp_batchLimit : (setComp s).batchLimit = s.batchLimit := rfl
@[simp] theorem setComp_link : (setComp s).link = s.link := rfl
@[simp] theorem setComp_window : (setComp s).window = { s.window with irqFlag := { s.window.irqFlag with comp := true } } := rfl
@[simp] theorem setComp_rstn : (setComp s).rstn = s.rstn := rfl
@[simp] theorem setComp_busOut : (setComp s).busOut = s.busOut := rfl
@[simp] theorem setComp_freeCount : (setComp s).freeCount = s.freeCount := rfl
@[simp] theorem setComp_pending : (setComp s).pending = s.pending := rfl

end

section

variable (s : State)

@[simp] theorem setEvt_entries : (setEvt s).entries = s.entries := rfl
@[simp] theorem setEvt_chans : (setEvt s).chans = s.chans := rfl
@[simp] theorem setEvt_schedPtr : (setEvt s).schedPtr = s.schedPtr := rfl
@[simp] theorem setEvt_engine : (setEvt s).engine = s.engine := rfl
@[simp] theorem setEvt_cmdQueue : (setEvt s).cmdQueue = s.cmdQueue := rfl
@[simp] theorem setEvt_seq : (setEvt s).seq = s.seq := rfl
@[simp] theorem setEvt_owed : (setEvt s).owed = s.owed := rfl
@[simp] theorem setEvt_flags : (setEvt s).flags = s.flags := rfl
@[simp] theorem setEvt_ring : (setEvt s).ring = s.ring := rfl
@[simp] theorem setEvt_batch : (setEvt s).batch = s.batch := rfl
@[simp] theorem setEvt_events : (setEvt s).events = s.events := rfl
@[simp] theorem setEvt_timebase : (setEvt s).timebase = s.timebase := rfl
@[simp] theorem setEvt_interval : (setEvt s).interval = s.interval := rfl
@[simp] theorem setEvt_batchLimit : (setEvt s).batchLimit = s.batchLimit := rfl
@[simp] theorem setEvt_link : (setEvt s).link = s.link := rfl
@[simp] theorem setEvt_window : (setEvt s).window = { s.window with irqFlag := { s.window.irqFlag with evt := true } } := rfl
@[simp] theorem setEvt_rstn : (setEvt s).rstn = s.rstn := rfl
@[simp] theorem setEvt_busOut : (setEvt s).busOut = s.busOut := rfl
@[simp] theorem setEvt_freeCount : (setEvt s).freeCount = s.freeCount := rfl
@[simp] theorem setEvt_pending : (setEvt s).pending = s.pending := rfl

end

section

variable (s : State)

@[simp] theorem setSpace_entries : (setSpace s).entries = s.entries := rfl
@[simp] theorem setSpace_chans : (setSpace s).chans = s.chans := rfl
@[simp] theorem setSpace_schedPtr : (setSpace s).schedPtr = s.schedPtr := rfl
@[simp] theorem setSpace_engine : (setSpace s).engine = s.engine := rfl
@[simp] theorem setSpace_cmdQueue : (setSpace s).cmdQueue = s.cmdQueue := rfl
@[simp] theorem setSpace_seq : (setSpace s).seq = s.seq := rfl
@[simp] theorem setSpace_owed : (setSpace s).owed = s.owed := rfl
@[simp] theorem setSpace_flags : (setSpace s).flags = s.flags := rfl
@[simp] theorem setSpace_ring : (setSpace s).ring = s.ring := rfl
@[simp] theorem setSpace_batch : (setSpace s).batch = s.batch := rfl
@[simp] theorem setSpace_events : (setSpace s).events = s.events := rfl
@[simp] theorem setSpace_timebase : (setSpace s).timebase = s.timebase := rfl
@[simp] theorem setSpace_interval : (setSpace s).interval = s.interval := rfl
@[simp] theorem setSpace_batchLimit : (setSpace s).batchLimit = s.batchLimit := rfl
@[simp] theorem setSpace_link : (setSpace s).link = s.link := rfl
@[simp] theorem setSpace_window : (setSpace s).window = { s.window with irqFlag := { s.window.irqFlag with space := true } } := rfl
@[simp] theorem setSpace_rstn : (setSpace s).rstn = s.rstn := rfl
@[simp] theorem setSpace_busOut : (setSpace s).busOut = s.busOut := rfl
@[simp] theorem setSpace_freeCount : (setSpace s).freeCount = s.freeCount := rfl
@[simp] theorem setSpace_pending : (setSpace s).pending = s.pending := rfl

end

section

variable (s : State)

@[simp] theorem setQuiet_entries : (setQuiet s).entries = s.entries := rfl
@[simp] theorem setQuiet_chans : (setQuiet s).chans = s.chans := rfl
@[simp] theorem setQuiet_schedPtr : (setQuiet s).schedPtr = s.schedPtr := rfl
@[simp] theorem setQuiet_engine : (setQuiet s).engine = s.engine := rfl
@[simp] theorem setQuiet_cmdQueue : (setQuiet s).cmdQueue = s.cmdQueue := rfl
@[simp] theorem setQuiet_seq : (setQuiet s).seq = s.seq := rfl
@[simp] theorem setQuiet_owed : (setQuiet s).owed = s.owed := rfl
@[simp] theorem setQuiet_flags : (setQuiet s).flags = s.flags := rfl
@[simp] theorem setQuiet_ring : (setQuiet s).ring = s.ring := rfl
@[simp] theorem setQuiet_batch : (setQuiet s).batch = s.batch := rfl
@[simp] theorem setQuiet_events : (setQuiet s).events = s.events := rfl
@[simp] theorem setQuiet_timebase : (setQuiet s).timebase = s.timebase := rfl
@[simp] theorem setQuiet_interval : (setQuiet s).interval = s.interval := rfl
@[simp] theorem setQuiet_batchLimit : (setQuiet s).batchLimit = s.batchLimit := rfl
@[simp] theorem setQuiet_link : (setQuiet s).link = s.link := rfl
@[simp] theorem setQuiet_window : (setQuiet s).window = { s.window with irqFlag := { s.window.irqFlag with quiet := true } } := rfl
@[simp] theorem setQuiet_rstn : (setQuiet s).rstn = s.rstn := rfl
@[simp] theorem setQuiet_busOut : (setQuiet s).busOut = s.busOut := rfl
@[simp] theorem setQuiet_freeCount : (setQuiet s).freeCount = s.freeCount := rfl
@[simp] theorem setQuiet_pending : (setQuiet s).pending = s.pending := rfl

end

end Sys2Proof.Machine
end

