-- ==== Sys2Proof/Laws/Ops.lean ====
section
/-! SUPPORT. One lemma for each shared operation of Machine/Ops.lean: what it can do, said once. -/

namespace Sys2Proof.Machine

open Sys2Proof.Safety

/-! ### Decimal values -/

@[simp] theorem Dec.make_mag (neg : Bool) (mag : Nat) : (Dec.make neg mag).mag = mag := rfl

theorem Dec.make_zero_positive (neg : Bool) (mag : Nat) (h : (Dec.make neg mag).mag = 0) :
    (Dec.make neg mag).neg = false := by
  have h0 : mag = 0 := h
  simp [Dec.make, h0]

theorem Dec.make_toInt (neg : Bool) (mag : Nat) :
    (Dec.make neg mag).toInt = if neg then -(mag : Int) else (mag : Int) := by
  rcases Nat.eq_zero_or_pos mag with h | h
  · subst h; cases neg <;> rfl
  · have hm : (mag != 0) = true := by simp; omega
    cases neg <;> simp [Dec.make, Dec.toInt, hm]

/-- R10–R12: the value that a fit gives always fits the width. -/
theorem fit_value_fits (a : Attr) (r : Dec) : ValueFits a.width (fit a r).value := by
  have hp : 0 < 10 ^ a.width := Nat.pow_pos (by omega)
  unfold fit
  split
  · exact ⟨by simpa using ‹_›, Dec.make_zero_positive _ _⟩
  · cases a.policy with
    | wrap => exact ⟨by simpa using Nat.mod_lt _ hp, Dec.make_zero_positive _ _⟩
    | saturate => exact ⟨by simp, Dec.make_zero_positive _ _⟩

/-- R10–R12: a fit gives a carry exactly when it wraps. -/
theorem fit_carry_iff (a : Attr) (r : Dec) : (fit a r).carry.isSome = true ↔ (fit a r).outcome = .wrapped := by
  unfold fit
  split
  · simp
  · cases a.policy <;> simp

/-! ### The store and the channels -/

theorem setEntry_get_self (es : Vector Entry 32) (i : Fin 32) (e : Entry) : (setEntry es i e)[i] = e := by
  simp [setEntry]

@[simp] theorem setEntry_getElem_self (es : Vector Entry 32) (i : Fin 32) (e : Entry) :
    (setEntry es i e)[i.val] = e := by
  simp [setEntry]

theorem setEntry_get_ne (es : Vector Entry 32) {i j : Fin 32} (e : Entry) (h : j ≠ i) :
    (setEntry es i e)[j] = es[j] := by
  have : i.val ≠ j.val := fun hij => h (Fin.ext hij.symm)
  simp [setEntry, this]

theorem setChan_get_self (cs : Vector Channel 8) (i : Fin 8) (c : Channel) : (setChan cs i c)[i] = c := by
  simp [setChan]

@[simp] theorem setChan_getElem_self (cs : Vector Channel 8) (i : Fin 8) (c : Channel) :
    (setChan cs i c)[i.val] = c := by
  simp [setChan]

theorem setChan_get_ne (cs : Vector Channel 8) {i j : Fin 8} (c : Channel) (h : j ≠ i) :
    (setChan cs i c)[j] = cs[j] := by
  have : i.val ≠ j.val := fun hij => h (Fin.ext hij.symm)
  simp [setChan, this]

/-- Two stores with the same attribute records have the same chains (R14). -/
theorem chainFrom_congr (es es' : Vector Entry 32) (h : ∀ i : Fin 32, es'[i].attr = es[i].attr) :
    ∀ (n : Nat) (i : Fin 32), chainFrom n es' i = chainFrom n es i
  | 0, _ => rfl
  | n + 1, i => by
    unfold chainFrom
    rw [h i]
    cases es[i].attr.link with
    | none => rfl
    | some j => simp [chainFrom_congr es es' h n j]

/-- One step of a chain write changes one entry's value only. -/
theorem fitEntry_store (es : Vector Entry 32) (i : Fin 32) (r : Dec) :
    (fitEntry es i r).2.2 = setEntry es i { es[i] with value := (fit es[i].attr r).value } := rfl

theorem fitEntry_attr (es : Vector Entry 32) (i : Fin 32) (r : Dec) (j : Fin 32) :
    (fitEntry es i r).2.2[j] = { es[j] with value := (fitEntry es i r).2.2[j].value } := by
  rw [fitEntry_store]
  by_cases h : j = i
  · subst h; rw [setEntry_get_self]
  · rw [setEntry_get_ne es _ h]

/-- The two ways a chain write goes on from its first step (R15). -/
theorem chainWriteFrom_succ (n : Nat) (es : Vector Entry 32) (i : Fin 32) (r : Dec) :
    (∃ c j, (fit es[i].attr r).carry = some c ∧ es[i].attr.link = some j ∧
      chainWriteFrom (n + 1) es i r =
        ((fitEntry es i r).2.1 ::
          (chainWriteFrom n (fitEntry es i r).2.2 j (Dec.add (fitEntry es i r).2.2[j].value c)).1,
        (chainWriteFrom n (fitEntry es i r).2.2 j (Dec.add (fitEntry es i r).2.2[j].value c)).2))
      ∨ (((fit es[i].attr r).carry = none ∨ es[i].attr.link = none) ∧
        chainWriteFrom (n + 1) es i r = ([(fitEntry es i r).2.1], (fitEntry es i r).2.2)) := by
  cases hc : (fit es[i].attr r).carry with
  | none => exact .inr ⟨.inl rfl, by simp only [chainWriteFrom, fitEntry, hc]⟩
  | some c =>
    cases hl : es[i].attr.link with
    | none => exact .inr ⟨.inr rfl, by simp only [chainWriteFrom, fitEntry, hc, hl]⟩
    | some j => exact .inl ⟨c, j, rfl, rfl, by simp only [chainWriteFrom, fitEntry, hc, hl]⟩

/-- A chain write changes nothing but values (R15). -/
theorem chainWriteFrom_attr : ∀ (n : Nat) (es : Vector Entry 32) (i : Fin 32) (r : Dec) (k : Fin 32),
    (chainWriteFrom n es i r).2[k] = { es[k] with value := (chainWriteFrom n es i r).2[k].value }
  | 0, _, _, _, _ => rfl
  | n + 1, es, i, r, k => by
    rcases chainWriteFrom_succ n es i r with ⟨c, j, _, _, h⟩ | ⟨_, h⟩
    · rw [h]
      have h1 := chainWriteFrom_attr n (fitEntry es i r).2.2 j (Dec.add (fitEntry es i r).2.2[j].value c) k
      have h2 := fitEntry_attr es i r k
      simp only
      rw [h1, h2]
    · rw [h]; exact fitEntry_attr es i r k

/-! ### The event queue -/

/-- R142: the two ways of an append. -/
theorem appendEvent_cases (b : EventBody) (s : State) :
    (s.events.records.length < 24 ∧ appendEvent b s = placeEvent b s)
      ∨ (24 ≤ s.events.records.length
        ∧ appendEvent b s = s.withEvents { s.events with lost := min 255 (s.events.lost + 1) }) := by
  unfold appendEvent Config.eventDepth
  split
  · exact .inl ⟨‹_›, rfl⟩
  · exact .inr ⟨by omega, rfl⟩

/-- An append touches the event queue and EVT only. -/
theorem appendEvent_eq (b : EventBody) (s : State) :
    ∃ q f, appendEvent b s = (s.withEvents q).withIrqFlag f := by
  rcases appendEvent_cases b s with ⟨_, h⟩ | ⟨_, h⟩
  · exact ⟨_, { s.window.irqFlag with evt := true }, h⟩
  · exact ⟨{ s.events with lost := min 255 (s.events.lost + 1) }, s.window.irqFlag, h⟩

/-! ### Events of one instant in a free order (log 6) -/

/-- What every action and every free choice keep, the run of the threads keeps, in whatever order. -/
theorem interleave_keeps {α : Type} (run : α → State → State) (P : State → Prop)
    (hrun : ∀ a s, P s → P (run a s)) (hfree : ∀ s n, P s → P (s.withFreeCount n)) :
    ∀ (fuel : Nat) (threads : List (List α)) (s : State), P s → P (interleave run fuel threads s)
  | 0, _, _, h => h
  | fuel + 1, threads, s, h => by
    have hfold : ∀ (t : List α) (s : State), P s → P (t.foldl (fun s a => run a s) s) := by
      intro t
      induction t with
      | nil => exact fun _ h => h
      | cons a t ih => exact fun s h => ih _ (hrun a s h)
    unfold interleave
    split
    · exact h
    · exact hfold _ _ h
    · dsimp only
      split
      · exact interleave_keeps run P hrun hfree fuel _ _ (hrun _ _ (hfree _ _ h))
      · exact h

theorem runThreads_keeps {α : Type} (run : α → State → State) (P : State → Prop)
    (hrun : ∀ a s, P s → P (run a s)) (hfree : ∀ s n, P s → P (s.withFreeCount n))
    (threads : List (List α)) (s : State) (h : P s) : P (runThreads run threads s) :=
  interleave_keeps run P hrun hfree _ threads s h

/-- With no action, nothing happens. -/
theorem runThreads_idle {α : Type} (run : α → State → State) (threads : List (List α)) (s : State)
    (h : ∀ t ∈ threads, t = []) : runThreads run threads s = s := by
  have hf : threads.filter (fun t => !t.isEmpty) = [] := by
    rw [List.filter_eq_nil_iff]
    intro t ht
    simp [h t ht]
  simp [runThreads, interleave, hf]

/-- With one live thread, its actions run in its order and no free choice is made. -/
theorem runThreads_one {α : Type} (run : α → State → State) (threads : List (List α)) (t : List α) (s : State)
    (h : threads.filter (fun t => !t.isEmpty) = [t]) :
    runThreads run threads s = t.foldl (fun s a => run a s) s := by
  simp [runThreads, interleave, h]

/-- One block's events are appended in its order (R144). -/
theorem appendThreads_single (evs : List EventBody) (s : State) : appendThreads [evs] s = appendAll evs s := by
  cases evs with
  | nil => exact runThreads_idle _ _ _ (by simp)
  | cons b bs => exact runThreads_one _ _ (b :: bs) _ (by simp)

end Sys2Proof.Machine
end

