-- ==== Sys2Proof/Laws/Blocks.lean ====
section
/-! SUPPORT. One lemma for each shared operation of the engine, the batch unit, the report link and the pipeline: the
fields it can touch, or the ways it can go, said once. -/

namespace Sys2Proof.Machine

open Sys2Proof.Safety

/-! ### The engine (ch. 2) -/

theorem setPostReq_eq (x : Bool) (s : State) :
    setPostReq x s = { s with engine := { s.engine with postReq := x } } := rfl

theorem setCmdReq_eq (x : Bool) (s : State) :
    setCmdReq x s = { s with engine := { s.engine with cmdReq := x } } := rfl

theorem refreshPostReq_eq (s : State) :
    refreshPostReq s = { s with engine := { s.engine with postReq := anyEligible s } } := rfl

theorem freeEngine_eq (s : State) :
    freeEngine s = { s with engine := { s.engine with inFlight := none } } := rfl

/-- R57: what starting a post touches. -/
theorem startPost_eq (ch : Fin 8) (s : State) :
    startPost ch s =
      { s with
        engine := (startPost ch s).engine
        chans := setChan s.chans ch { s.chans[ch] with units := s.chans[ch].units - 1 }
        schedPtr := ch + 1 } := rfl

/-- R26: what granting the command side touches: the engine, and a waiting command becomes EXECUTING. -/
theorem grantCommand_eq (s : State) :
    grantCommand s = { s with engine := (grantCommand s).engine, seq := (grantCommand s).seq } := by
  unfold grantCommand
  dsimp only
  split
  · split <;> rfl
  · split
    · split <;> rfl
    · rfl

/-- R25, R57: what granting the post side touches. -/
theorem grantPost_eq (s : State) :
    grantPost s =
      { s with
        engine := (grantPost s).engine, chans := (grantPost s).chans
        schedPtr := (grantPost s).schedPtr, seq := (grantPost s).seq } := by
  unfold grantPost
  split
  · rfl
  · dsimp only
    split
    · rw [grantCommand_eq]; rfl
    · rfl

/-- R24: what a decision of the arbiter touches. -/
theorem arbitrate_eq (s : State) :
    arbitrate s =
      { s with
        engine := (arbitrate s).engine, chans := (arbitrate s).chans
        schedPtr := (arbitrate s).schedPtr, seq := (arbitrate s).seq } := by
  unfold arbitrate
  split
  · rfl
  · exact grantPost_eq s
  · rw [grantCommand_eq]
  · split
    · rw [grantCommand_eq]
    · exact grantPost_eq s

/-- R24: without a request the arbiter does nothing. -/
theorem arbitrate_idle (s : State) (hp : s.engine.postReq = false) (hc : s.engine.cmdReq = false) :
    arbitrate s = s := by
  simp [arbitrate, hp, hc]

/-- R23: at a busy engine a request waits. -/
theorem arrive_busy (s : State) (h : engineFree s = false) : arrive s = s := by simp [arrive, h]

theorem arrive_free (s : State) (h : engineFree s = true) : arrive s = arbitrate s := by simp [arrive, h]

/-- R23: what a request's arrival touches. -/
theorem arrive_eq (s : State) :
    arrive s =
      { s with
        engine := (arrive s).engine, chans := (arrive s).chans
        schedPtr := (arrive s).schedPtr, seq := (arrive s).seq } := by
  unfold arrive
  split
  · exact arbitrate_eq s
  · rfl

/-- R56, R23: what bringing the scheduler's request up to date touches. -/
theorem schedule_eq (s : State) :
    schedule s =
      { s with
        engine := (schedule s).engine, chans := (schedule s).chans
        schedPtr := (schedule s).schedPtr, seq := (schedule s).seq } := by
  unfold schedule
  rw [arrive_eq]
  rfl

/-- R16, R26: an arrival never changes the operation in flight. -/
theorem arrive_flight (s : State) (x : Operation) (h : s.engine.inFlight = some x) :
    (arrive s).engine.inFlight = some x := by
  have : engineFree s = false := by simp [engineFree, h]
  rw [arrive_busy s this, h]

/-- R53, R57: no decision of the arbiter changes a channel's record or input. -/
theorem startPost_record (ch k : Fin 8) (s : State) :
    (startPost ch s).chans[k].record = s.chans[k].record ∧ (startPost ch s).chans[k].input = s.chans[k].input := by
  have h : (startPost ch s).chans = setChan s.chans ch { s.chans[ch] with units := s.chans[ch].units - 1 } := rfl
  rw [h]
  by_cases hk : k = ch
  · subst hk; rw [setChan_get_self]; exact ⟨rfl, rfl⟩
  · rw [setChan_get_ne _ _ hk]; exact ⟨rfl, rfl⟩

/-! ### The batch unit (ch. 6) -/

/-- R118, R119: the ways an unwinding goes on. -/
theorem beginUnwind_cases (s : State) :
    (s.batch.undo = [] ∧ beginUnwind s = endUnwind s)
      ∨ (s.batch.undo ≠ [] ∧ beginUnwind s = arrive (setCmdReq true s)) := by
  unfold beginUnwind
  cases h : s.batch.undo with
  | nil => exact .inl ⟨rfl, rfl⟩
  | cons u us => exact .inr ⟨by simp, rfl⟩

/-- R118, R119: what going on with an unwinding touches. -/
theorem beginUnwind_eq (s : State) :
    beginUnwind s =
      { s with
        batch := (beginUnwind s).batch, engine := (beginUnwind s).engine, chans := (beginUnwind s).chans
        schedPtr := (beginUnwind s).schedPtr, seq := (beginUnwind s).seq } := by
  rcases beginUnwind_cases s with ⟨_, h⟩ | ⟨_, h⟩
  · rw [h]; rfl
  · rw [h, arrive_eq]; rfl

/-- R117: what entering UNWINDING touches. -/
theorem enterUnwinding_eq (c : UnwindCause) (s : State) :
    enterUnwinding c s = { s with batch := { s.batch with phase := .unwinding, cause := c, timer := none } } := rfl

/-- R121: what opening a void touches: the batch unit, the event queue and EVT. -/
theorem openVoid_eq (d : Byte) (s : State) :
    ∃ q f, openVoid d s =
      ((s.withEvents q).withIrqFlag f).withBatch { s.batch with phase := .unwinding, cause := .void, timer := none } := by
  obtain ⟨q, f, h⟩ := appendEvent_eq ⟨.batchVoid, 0, d⟩ s
  exact ⟨q, f, by unfold openVoid; rw [h]; rfl⟩

/-- R115: a push changes nothing of an entry but its held marker, which it never clears. -/
theorem pushWritten_entry : ∀ (ws : List Written) (es : Vector Entry 32) (undo : List UndoRec) (i : Fin 32),
    (pushWritten ws es undo).1[i] = { es[i] with held := (pushWritten ws es undo).1[i].held }
      ∧ (es[i].held = true → (pushWritten ws es undo).1[i].held = true)
  | [], _, _, _ => ⟨rfl, id⟩
  | w :: ws, es, undo, i => by
    unfold pushWritten
    split
    · exact pushWritten_entry ws es undo i
    · obtain ⟨h1, h2⟩ := pushWritten_entry ws (setEntry es w.index { es[w.index] with held := true })
        (⟨w.index, w.prior⟩ :: undo) i
      by_cases hi : i = w.index
      · subst hi
        rw [setEntry_get_self] at h1 h2
        exact ⟨by rw [h1], fun _ => h2 rfl⟩
      · rw [setEntry_get_ne _ _ hi] at h1 h2
        exact ⟨h1, h2⟩

/-- R115: the records pushed stand above the ones that were there. -/
theorem pushWritten_suffix : ∀ (ws : List Written) (es : Vector Entry 32) (undo : List UndoRec),
    undo <:+ (pushWritten ws es undo).2
  | [], _, _ => List.suffix_refl _
  | w :: ws, es, undo => by
    unfold pushWritten
    split
    · exact pushWritten_suffix ws es undo
    · exact (List.suffix_cons _ _).trans (pushWritten_suffix ws _ _)

/-! ### The threshold monitor (section 6.11) -/

/-- R134, R135: what one evaluation does. -/
theorem evaluate_entry (es : Vector Entry 32) (i j : Fin 32) :
    (evaluate es i).1[j] = { es[j] with side := (evaluate es i).1[j].side } := by
  unfold evaluate
  dsimp only
  split
  · rfl
  · split
    · rfl
    · by_cases h : j = i
      · subst h; rw [setEntry_get_self]
      · rw [setEntry_get_ne _ _ h]

/-- R136: evaluations change nothing but sides. -/
theorem evaluateAll_entry : ∀ (is : List (Fin 32)) (es : Vector Entry 32) (j : Fin 32),
    (evaluateAll es is).1[j] = { es[j] with side := (evaluateAll es is).1[j].side }
  | [], _, _ => rfl
  | i :: is, es, j => by
    have h1 := evaluateAll_entry is (evaluate es i).1 j
    rw [evaluate_entry es i j] at h1
    exact h1

/-! ### The report link (ch. 9) -/

/-- R165: the two ways a start goes. -/
theorem tryStart_cases (n : Nat) (s : State) :
    (∃ j js, s.link.state = .idle ∧ s.link.jobs = j :: js ∧
      tryStart n s = s.withLink { s.link with
        state := if (newFrame s j n).followed then .ready (newFrame s j n) else .sending (newFrame s j n) })
      ∨ ((s.link.state ≠ .idle ∨ s.link.jobs = []) ∧ tryStart n s = s) := by
  unfold tryStart
  split
  · exact .inl ⟨_, _, ‹_›, ‹_›, rfl⟩
  · rename_i hn
    refine .inr ⟨?_, rfl⟩
    cases hj : s.link.jobs with
    | nil => exact .inr rfl
    | cons j js => exact .inl fun hs => hn j js hs hj

/-- R165: a start changes nothing but the link's state. -/
theorem tryStart_eq (n : Nat) (s : State) :
    tryStart n s = { s with link := { s.link with state := (tryStart n s).link.state } } := by
  rcases tryStart_cases n s with ⟨j, js, _, _, h⟩ | ⟨_, h⟩
  · rw [h]; rfl
  · rw [h]

/-- R165, R169, R172: what a start makes of an IDLE link with a job at the head of its queue. -/
theorem tryStart_started (n : Nat) (s : State) (j : Job) (js : List Job) (hs : s.link.state = .idle)
    (hj : s.link.jobs = j :: js) : FrameStarted s j n (tryStart n s).link.state := by
  have h : (tryStart n s).link.state
      = if (newFrame s j n).followed then .ready (newFrame s j n) else .sending (newFrame s j n) := by
    unfold tryStart
    rw [hs, hj]
    rfl
  rw [h]
  refine ⟨newFrame s j n, ?_, rfl, rfl, rfl, rfl, rfl, rfl, rfl, ?_, fun _ => rfl⟩
  · cases (newFrame s j n).followed <;> rfl
  · simp only [newFrame, timeoutLoad, ctrlFollowed]
    by_cases h0 : s.link.timeoutReg = 0 <;> by_cases h1 : s.link.ctrl.getLsbD 1 = true <;> simp_all

/-- R163, R169: half a bit cell, in the terms of the statements. -/
theorem halfCell_eq (rate : BitVec 2) : halfCell rate = halfPeriods rate := by
  revert rate; decide

/-- R168: the bit of a cell, in the terms of the statements. -/
theorem cellBit_eq (f : Frame) (k : Nat) : cellBit f k = frameBit f k := by
  unfold cellBit frameBit
  cases f.lsbFirst <;> rfl

/-- R161: what appending a job touches. -/
theorem appendJob_eq (j : Job) (s : State) :
    appendJob j s = { s with link := { s.link with jobs := s.link.jobs ++ [j], state := (appendJob j s).link.state } } := by
  unfold appendJob
  rw [tryStart_eq]
  rfl

/-- R171, R173, R174: what the end of a frame touches: the job queue, the link's state, the event queue and EVT. -/
theorem dropHead_eq (k : EventKind) (d : Job → Byte) (l : LinkState) (s : State) :
    ∃ q f, dropHead k d l s =
      ((s.withLink { s.link with jobs := s.link.jobs.tail, state := l }).withEvents q).withIrqFlag f := by
  unfold dropHead
  split
  · rename_i j rest hj
    obtain ⟨q, f, h⟩ := appendEvent_eq ⟨k, j.tag, d j⟩ (s.withLink { s.link with jobs := rest, state := l })
    exact ⟨q, f, by rw [h, hj]; rfl⟩
  · rename_i hj
    refine ⟨s.events, s.window.irqFlag, ?_⟩
    have ht : s.link.jobs.tail = s.link.jobs := by rw [hj]; rfl
    rw [ht]
    rfl

/-- Replacing the frame under way changes nothing but the link's state. -/
theorem setFrame_eq (f : Frame) (s : State) :
    setFrame f s = { s with link := { s.link with state := (setFrame f s).link.state } } := by
  unfold setFrame
  split <;> rfl

/-! ### The pipeline (ch. 5) -/

/-- R76, R97, R102: what a completion record touches: the ring, the owed marker and COMP. -/
theorem complete_eq (op : Opcode) (o : Operands) (st : Status) (s : State) :
    complete op o st s =
      { s with
        ring := s.ring ++ [⟨o.tag, opcodeByte op, st, s.flags⟩], owed := false
        window := { s.window with irqFlag := { s.window.irqFlag with comp := true } } } := rfl

/-- R71–R73: the five ways of steps 1 to 3. -/
theorem checked_cases (op : Opcode) (o : Operands) (body : State → State) (s : State) :
    (s.batch.phase = .void ∧ closesVoid op = true ∧ checked op o body s = complete op o .void (closeVoid s))
      ∨ (s.batch.phase = .void ∧ closesVoid op = false ∧ checked op o body s = complete op o .void s)
      ∨ (s.batch.phase ≠ .void ∧ condHolds o.cond s.flags = false ∧ checked op o body s = complete op o .skipped s)
      ∨ (∃ st, s.batch.phase ≠ .void ∧ condHolds o.cond s.flags = true ∧ classRefusal op s.batch.phase = some st
          ∧ checked op o body s = complete op o st s)
      ∨ (s.batch.phase ≠ .void ∧ condHolds o.cond s.flags = true ∧ classRefusal op s.batch.phase = none
          ∧ checked op o body s = body s) := by
  unfold checked
  by_cases hv : s.batch.phase = .void
  · cases hc : closesVoid op with
    | true => exact .inl ⟨hv, rfl, by simp [hv]⟩
    | false => exact .inr (.inl ⟨hv, rfl, by simp [hv]⟩)
  · cases hf : condHolds o.cond s.flags with
    | false => exact .inr (.inr (.inl ⟨hv, rfl, by simp [hv]⟩))
    | true =>
      cases hr : classRefusal op s.batch.phase with
      | some st => exact .inr (.inr (.inr (.inl ⟨st, hv, rfl, rfl, by simp [hv]⟩)))
      | none => exact .inr (.inr (.inr (.inr ⟨hv, rfl, rfl, by simp [hv]⟩)))

/-- R96, R105: the two ways the head of the queue is removed. -/
theorem popQueue_cases (s : State) :
    (s.cmdQueue.length = 16 ∧ popQueue s = setSpace (s.withCmdQueue s.cmdQueue.tail))
      ∨ (s.cmdQueue.length ≠ 16 ∧ popQueue s = s.withCmdQueue s.cmdQueue.tail) := by
  unfold popQueue Config.queueDepth
  by_cases h : s.cmdQueue.length = 16
  · exact .inl ⟨h, by simp [h]⟩
  · exact .inr ⟨h, by simp [h]⟩

/-- R96, R105: what removing the head of the queue touches: the queue and SPACE. -/
theorem popQueue_eq (s : State) :
    ∃ f, popQueue s = (s.withCmdQueue s.cmdQueue.tail).withIrqFlag f := by
  rcases popQueue_cases s with ⟨_, h⟩ | ⟨_, h⟩
  · exact ⟨_, h⟩
  · exact ⟨s.window.irqFlag, h⟩

/-- R99, R105: what entering IDLE touches: the sequencer and QUIET. -/
theorem enterIdle_eq (e : Bool) (s : State) :
    ∃ f, enterIdle e s = (s.withSeq .idle).withIrqFlag f := by
  unfold enterIdle
  dsimp only
  split
  · exact ⟨_, rfl⟩
  · exact ⟨s.window.irqFlag, rfl⟩

/-- R99: whatever the four tests and a take keep, passing on keeps. -/
theorem passOnFor_keeps (P : State → Prop)
    (hunw : ∀ s, P s → s.batch.phase = .unwinding → P (s.withSeq (.unwinding none)))
    (hidle : ∀ e s, P s → s.batch.phase ≠ .unwinding → s.cmdQueue = [] → P (enterIdle e s))
    (hstall : ∀ s, P s → s.batch.phase ≠ .unwinding → s.cmdQueue ≠ [] → ringFull s = true → P (s.withSeq .stalled))
    (htake : ∀ r q s, P s → s.batch.phase ≠ .unwinding → s.cmdQueue = r :: q → ringFull s = false →
      P (takeRecord r (popQueue s))) :
    ∀ (n : Nat) (e : Bool) (s : State), P s → P (passOnFor n e s)
  | 0, _, _, h => h
  | n + 1, e, s, h => by
    unfold passOnFor
    split
    · exact hunw s h ‹_›
    · split
      · exact hidle e s h ‹_› ‹_›
      · rename_i hp _ r q hq
        split
        · exact hstall s h hp (by simp [hq]) ‹_›
        · have hs := htake r q s h hp hq (Bool.eq_false_iff.mpr ‹_›)
          dsimp only
          split
          · exact hs
          · exact passOnFor_keeps P hunw hidle hstall htake n true _ hs

/-- R96: the two ways of a take row (log 3). -/
theorem takeStep_cases (op : Opcode) (o : Operands) (body : State → State) (s : State) :
    (canTake (recordOf op o) s = false ∧ takeStep op o body s = s)
      ∨ (canTake (recordOf op o) s = true ∧ hasCommand (body (beginTake s)) = true
          ∧ takeStep op o body s = body (beginTake s))
      ∨ (canTake (recordOf op o) s = true ∧ hasCommand (body (beginTake s)) = false
          ∧ takeStep op o body s = passOn true (body (beginTake s))) := by
  unfold takeStep
  cases hc : canTake (recordOf op o) s with
  | false => exact .inl ⟨rfl, rfl⟩
  | true =>
    cases hh : hasCommand (body (beginTake s)) with
    | true => exact .inr (.inl ⟨rfl, rfl, by simp [hh]⟩)
    | false => exact .inr (.inr ⟨rfl, rfl, by simp [hh]⟩)

/-- R96: what a take's beginning touches: the queue, the owed marker and SPACE. -/
theorem beginTake_eq (s : State) :
    ∃ f, beginTake s = ((s.withCmdQueue s.cmdQueue.tail).withOwed true).withIrqFlag f := by
  unfold beginTake
  cases hq : s.cmdQueue with
  | nil =>
    refine ⟨s.window.irqFlag, ?_⟩
    cases s; simp_all [State.withCmdQueue, State.withOwed, State.withIrqFlag, State.withWindow]
  | cons r q =>
    obtain ⟨f, h⟩ := popQueue_eq s
    exact ⟨f, by dsimp only; rw [h, hq]; rfl⟩

end Sys2Proof.Machine
end

