-- ==== Sys2Proof/Tests/Slice0.lean ====
section
/-! SUPPORT. Tests on one step each: the well-formedness checks, one or two small facts for each command, whose expected
values are the spec's own (its worked examples where it gives one), and the witnesses of the statements' hypotheses. -/

namespace Sys2Proof.Tests

set_option Elab.async false

open Sys2Proof.Machine Sys2Proof.Safety

/-! ### Small states and records -/

/-- The state that a command leaves. -/
def after (c : Instr) (s : State) : State :=
  match exec c s with
  | .next t => t
  | _ => s

/-- Operands A and B with condition ALWAYS, tag 41h and an immediate of zeros. -/
def ab (a b : Byte) : Operands := ⟨0, 0x41, a, b, 0, 0, 0, 0, 0, 0, 0⟩

/-- Operands of target A and the immediate 00 00 00 00 `hi` `lo`, its sign byte as given. -/
def imm (a sign hi lo : Byte) : Operands := ⟨0, 0x41, a, 0x80, sign, 0, 0, 0, 0, hi, lo⟩

/-- The operands with another condition. -/
def under (o : Operands) (cond : Byte) : Operands := { o with cond := cond }

/-- A positive value. -/
def pos (n : Nat) : Dec := ⟨false, n⟩

/-- A negative value. -/
def neg (n : Nat) : Dec := ⟨true, n⟩

/-- A WRAP entry of a width, a link and a value. -/
def wrapEntry (w : Nat) (link : Option (Fin 32)) (v : Dec) : Entry := ⟨v, ⟨w, .wrap, link, false⟩, none, .below, false⟩

/-- A state with an entry replaced. -/
def entryAt (i : Fin 32) (e : Entry) (s : State) : State := s.withEntries (setEntry s.entries i e)

/-- A state with a channel replaced. -/
def chanAt (i : Fin 8) (c : Channel) (s : State) : State := s.withChans (setChan s.chans i c)

/-- Section 1.10: entries 4, 9, 20, 12 and 13. -/
def st110 : State :=
  entryAt 4 (wrapEntry 4 (some 9) (pos 9870)) <| entryAt 9 (wrapEntry 3 (some 20) (pos 998)) <|
    entryAt 20 ⟨pos 41, ⟨12, .saturate, none, false⟩, none, .below, false⟩ <|
    entryAt 12 (wrapEntry 3 none (pos 600)) <|
    entryAt 13 ⟨neg 95, ⟨2, .saturate, none, false⟩, none, .below, false⟩ State.reset

/-- The command `o` of a code in EXECUTING, with its operation in flight and its completion owed. -/
def executing (op : Opcode) (o : Operands) (s : State) : State :=
  match arithOp op o s.entries with
  | some x => ((s.withEngine ⟨some x, .command, false, false⟩).withSeq (.executing (recordOf op o))).withOwed true
  | none => s

/-- A post of a channel in flight. -/
def posting (ch : Fin 8) (w : Nat) (d : Direction) (t : Fin 32) (s : State) : State :=
  s.withEngine ⟨some ⟨.post ch w d, t⟩, .post, false, false⟩

/-- An armed channel with the power-on record of its number. -/
def armed (ch : Fin 8) : Channel := { Channel.powerOn ch with input := .armed }

/-! ### Well-formedness: an ill-formed command for each check -/

theorem test_wf_code : malformed ⟨0x07, ab 0 0⟩ = true ∧ malformed ⟨0x00, ab 0 0⟩ = false := by decide +kernel
theorem test_wf_condition : wellFormed (.mark (under (ab 0 0) 0x09)) = false
    ∧ wellFormed (.mark (under (ab 0 0) 0x08)) = true := by decide +kernel
theorem test_wf_accumulator : wellFormed (.negate (ab 0x20 0)) = false ∧ wellFormed (.clear (ab 0x20 0)) = false
    ∧ wellFormed (.negate (ab 0x1F 0)) = true ∧ wellFormed (.add (ab 0x20 0)) = false := by decide +kernel
theorem test_wf_source : wellFormed (.sub (ab 0 0x20)) = false ∧ wellFormed (.move (ab 0 0x81)) = false
    ∧ wellFormed (.compare (ab 0 0x80)) = true := by decide +kernel
theorem test_wf_digits : wellFormed (.add (imm 7 0x80 0x1A 0x50)) = false
    ∧ wellFormed (.add (imm 7 0x80 0x12 0x50)) = true := by decide +kernel
theorem test_wf_width : wellFormed (.setattr (ab 0 0x00)) = false ∧ wellFormed (.setattr (ab 0 0x0D)) = false
    ∧ wellFormed (.setattr (ab 0 0x41)) = false ∧ wellFormed (.setattr (ab 0 0x0C)) = true := by decide +kernel
theorem test_wf_link : wellFormed (.setattr { ab 0 0x04 with i1 := 0x20 }) = false
    ∧ wellFormed (.setattr { ab 0 0x04 with i1 := 0xFF }) = true := by decide +kernel
theorem test_wf_filter : wellFormed (.setthresh (ab 0 0x04)) = false
    ∧ wellFormed (.setthresh { imm 0 0 0 0x0A with b := 0x03 }) = false
    ∧ wellFormed (.setthresh { imm 0 0 0 0x0A with b := 0x00 }) = true := by decide +kernel
theorem test_wf_channel : wellFormed (.chanclear (ab 8 0)) = false ∧ wellFormed (.chanclear (ab 7 0)) = true := by
  decide +kernel
/-- Section 4.12.1: the CHANCONFIG of channel 2. -/
def chan2 : Operands := ⟨0, 0x42, 0x02, 0x03, 0x03, 0x09, 0x02, 0x50, 0x04, 0xFF, 0xFF⟩
theorem test_wf_chanconfig : wellFormed (.chanconfig chan2) = true
    ∧ wellFormed (.chanconfig { chan2 with a := 8 }) = false ∧ wellFormed (.chanconfig { chan2 with b := 0x01 }) = false
    ∧ wellFormed (.chanconfig { chan2 with b := 0x13 }) = false
    ∧ wellFormed (.chanconfig { chan2 with i3 := 0x5A }) = false
    ∧ wellFormed (.chanconfig { chan2 with i2 := 0, i3 := 0 }) = false
    ∧ wellFormed (.chanconfig { chan2 with i4 := 0x20 }) = false := by decide +kernel
theorem test_wf_report : wellFormed (.report (ab 0 3)) = false ∧ wellFormed (.report (ab 9 3)) = false
    ∧ wellFormed (.report (ab 1 0x20)) = false ∧ wellFormed (.report (ab 8 3)) = true
    ∧ wellFormed (.reportPeriodic (ab 0 0x20)) = true ∧ wellFormed (.reportPeriodic (ab 9 3)) = false := by
  decide +kernel
theorem test_wf_window : wellFormed (.init 0xFE) = false ∧ wellFormed (.init 0x01) = true
    ∧ wellFormed (.registerWrite 0x10 0) = false ∧ wellFormed (.registerWrite 0x39 0) = true
    ∧ wellFormed (.registerWrite 0x01 0x01) = false ∧ wellFormed (.registerWrite 0x01 0xFE) = true
    ∧ wellFormed (.readAccess 0x21) = false ∧ wellFormed (.readAccess 0x22) = true := by decide +kernel
theorem test_no_row_has_bits : decodeTableWord 8 0x10 = none ∧ decodeTableWord 96 0 = none := by decide
theorem test_fetch_word_unchanged : State.reset.withFetchWord 8 0x10 = State.reset := by decide +kernel

/-! ### Resets and RSTn -/

theorem test_power_on_store : (after .powerOnReset st110).entries = State.reset.entries := by decide +kernel
/-- Section 5.10, step 1. -/
def st510 : State :=
  let s := entryAt 3 { wrapEntry 12 none (pos 2700) with held := true } State.reset
  let s := (s.withBatch ⟨.opened, .abort, [⟨3, pos 4200⟩], none, true, false⟩).withCmdQueue
    [recordOf .batchCommit (ab 0 0), recordOf .mark (ab 0 0)]
  executing .add (imm 5 0 0x00 0x40) s
theorem test_init_5_10 : (after (.init 1) st510).batch.phase = .unwinding ∧ (after (.init 1) st510).batch.cause = .reset
    ∧ (after (.init 1) st510).owed = false ∧ (after (.init 1) st510).cmdQueue = [] := by decide +kernel
theorem test_completion_after_init_5_10 :
    let t := after .arithmeticCompletion (after (.init 1) st510)
    t.batch.undo = [⟨5, pos 0⟩, ⟨3, pos 4200⟩] ∧ t.ring = [] ∧ t.seq = .unwinding none := by decide +kernel
theorem test_interface_reset_keeps_store : (after .interfaceReset st110).entries = st110.entries
    ∧ (after .interfaceReset st110).rstn = false := by decide +kernel
theorem test_rstn_rise : (after .rstnRise (State.reset.withRstn false)).rstn = true := by decide +kernel

/-! ### Channels and timers -/

/-- Section 3.3.1: channel 3 after sample 4. -/
def st331 : State :=
  posting 0 1 .add 0 (chanAt 3 { Channel.powerOn 3 with
    record := { (Channel.powerOn 3).record with enable := true, qualify := 2 }, input := .armed, qcount := 2 } State.reset)
theorem test_sample_5_of_3_3_1 : ((after (.sample 0x08) st331).chans[3]).units = 1
    ∧ ((after (.sample 0x08) st331).chans[3]).level = true ∧ ((after (.sample 0x08) st331).chans[3]).qcount = 0 := by
  decide +kernel
theorem test_sample_2_of_3_3_1 : ((after (.sample 0x00) st331).chans[3]).qcount = 0
    ∧ ((after (.sample 0x00) st331).chans[3]).level = false := by decide +kernel
/-- Section 3.12: channel 0 after step 3, its target held. -/
def st312 : State :=
  (chanAt 0 { armed 0 with
    record := ⟨true, .rising, 0, 2, 25, .add, 4⟩, divCount := 1, units := 255 } (entryAt 4 (wrapEntry 4 (some 9) (pos 0))
    (entryAt 9 { wrapEntry 12 none (pos 1) with held := true } State.reset))).withBatch
    ⟨.opened, .abort, [⟨9, pos 0⟩], none, false, false⟩
theorem test_unit_dropped_3_12 : ((after (.unitArrival 0) st312).chans[0]).dropped = 1
    ∧ ((after (.unitArrival 0) st312).chans[0]).units = 255 ∧ ((after (.unitArrival 0) st312).chans[0]).divCount = 2
    ∧ (after (.unitArrival 0) st312).events.records = [⟨0, ⟨.overrun, 0, 0⟩⟩] := by decide +kernel
theorem test_unit_posted : (after (.unitArrival 2) (chanAt 2 (armed 2) State.reset)).engine.inFlight
    = some ⟨.post 2 1 .add, 2⟩ := by decide +kernel
/-- R149: tick 0 ends at the 32nd period. -/
theorem test_first_tick_at_32 : (after (.sample 0) (State.reset.withTimebase ⟨31, 0⟩)).timebase = ⟨32, 1⟩
    ∧ (after (.sample 0) (State.reset.withTimebase ⟨30, 0⟩)).timebase = ⟨31, 0⟩ := by decide +kernel
/-- Section 8.9: before tick 3, with a length of 5 and four units counted. -/
def st89 : State :=
  chanAt 2 { armed 2 with rate := 4 } (State.reset.withInterval ⟨true, true, 5, 1, 0, 0⟩)
theorem test_tick_3_of_8_9 : (after .millisecondTick st89).interval.count = 5
    ∧ ((after .millisecondTick st89).chans[2]).rateLatch = 4 ∧ ((after .millisecondTick st89).chans[2]).rate = 0
    ∧ (after .millisecondTick st89).events.records = [⟨0, ⟨.interval, 0, 0⟩⟩] := by decide +kernel
theorem test_interval_expiry_8_9 : (after .intervalExpiry st89).interval.count = 5
    ∧ (after .intervalExpiry st89).timebase = st89.timebase := by decide +kernel
theorem test_parked_timer_8_9 :
    after .intervalExpiry (State.reset.withInterval ⟨true, true, 0, 3, 0, 0⟩)
      = State.reset.withInterval ⟨true, true, 0, 3, 0, 0⟩ := by decide +kernel
theorem test_batch_expiry_deferred : (after .batchTimerExpiry (st510.withBatch { st510.batch with timer := some 1 })).batch
    = { st510.batch with deferred := true } := by decide +kernel

/-! ### Engine completions -/

/-- Section 1.10, example 1, as an ADD and as a post. -/
theorem test_add_completion_1_10 :
    let t := after .arithmeticCompletion (executing .add (imm 4 0 0x02 0x50) st110)
    t.entries[4].value = pos 120 ∧ t.entries[9].value = pos 999 ∧ t.flags = ⟨false, false, true, false⟩ := by
  decide +kernel
theorem test_post_completion_1_10 :
    let t := after .postCompletion (posting 0 250 .add 4 st110)
    t.entries[4].value = pos 120 ∧ t.entries[9].value = pos 999 ∧ t.entries[20].value = pos 41 := by decide +kernel
/-- Section 1.10, example 5: −95 less 20 saturates. -/
theorem test_sub_completion_saturates :
    let t := after .arithmeticCompletion (executing .sub (imm 13 0 0x00 0x20) st110)
    t.entries[13].value = neg 99 ∧ t.flags = ⟨true, false, false, true⟩ := by decide +kernel
/-- Section 1.10, example 4. -/
theorem test_post_wraps_to_zero :
    (after .postCompletion (posting 0 400 .add 12 st110)).entries[12].value = pos 0 := by decide +kernel
/-- Section 6.12, step 11: the restore of entry 10; channel 1's post is granted. -/
def st612 : State :=
  let s := entryAt 3 { wrapEntry 12 none (pos 2700) with held := true } <|
    entryAt 10 { wrapEntry 4 (some 11) (pos 605) with held := true } <| entryAt 11 (wrapEntry 8 none (pos 37)) State.reset
  let s := chanAt 1 { armed 1 with record := ⟨true, .rising, 0, 1, 5, .add, 10⟩, units := 2 } s
  ((((s.withBatch ⟨.unwinding, .abort, [⟨10, pos 9105⟩, ⟨3, pos 4200⟩], none, false, false⟩).withEngine
    ⟨some ⟨.restore (pos 9105), 10⟩, .command, false, false⟩).withSeq
    (.unwinding (some (recordOf .batchAbort (ab 0 0))))).withFlags ⟨false, false, true, false⟩).withOwed true
theorem test_restore_completion_6_12 :
    let t := after .restoreCompletion st612
    t.entries[10].value = pos 9105 ∧ t.entries[10].held = false
      ∧ t.engine = ⟨some ⟨.post 1 5 .add, 10⟩, .post, true, true⟩ ∧ t.chans[1].units = 1 := by decide +kernel
/-- Section 6.12, step 12: the command side is granted after a post. -/
theorem test_alternation_6_12 :
    let t := after .postCompletion (after .restoreCompletion st612)
    t.entries[10].value = pos 9110 ∧ t.engine = ⟨some ⟨.restore (pos 4200), 3⟩, .command, true, false⟩ := by
  decide +kernel
/-- Section 3.8.1, grant 2: from pointer 7, channel 1 is chosen. -/
theorem test_grant_3_8_1 :
    let s := chanAt 1 { armed 1 with units := 2 } (chanAt 3 { armed 3 with units := 1 } State.reset)
    let t := after .grant ((s.withEngine ⟨none, .command, true, false⟩).withSchedPtr 7)
    t.chans[1].units = 1 ∧ t.schedPtr = 2 ∧ t.engine.postReq = true := by decide +kernel

/-! ### Takes -/

/-- Section 4.12.2: entry 3 holds the credit +420 and the flag word says N. -/
def st412 : State :=
  (entryAt 3 (wrapEntry 12 none (pos 420)) State.reset).withFlags ⟨true, false, false, false⟩
theorem test_sub_skipped_4_12_2 : (after (.sub (under (imm 3 0 0x05 0x00) 4)) st412).ring
    = [⟨0x41, 0x02, .skipped, ⟨true, false, false, false⟩⟩] := by decide +kernel
theorem test_sub_granted : (after (.sub (imm 3 0 0x05 0x00)) st412).engine.inFlight = some ⟨.sub (pos 500), 3⟩ := by
  decide +kernel
theorem test_mark_done_4_12_2 : (after (.mark (under (ab 0 0) 3)) st412).ring
    = [⟨0x41, 0x00, .done, ⟨true, false, false, false⟩⟩] := by decide +kernel
theorem test_compare_4_12_2 :
    (after .arithmeticCompletion (executing .compare (imm 3 0 0x05 0x00) st412)).flags
      = ⟨true, false, false, false⟩ := by decide +kernel
theorem test_compare_taken : (after (.compare (imm 3 0 0x05 0x00)) st412).engine.inFlight
    = some ⟨.compare (pos 500), 3⟩ := by decide +kernel
/-- Section 4.12.1: −1 250 for accumulator 7. -/
theorem test_add_4_12_1 : (after (.add (imm 7 0x80 0x12 0x50)) State.reset).engine.inFlight
    = some ⟨.add (neg 1250), 7⟩ := by decide +kernel
theorem test_move_reads_source : (after (.move (ab 0 13)) st110).engine.inFlight = some ⟨.move (neg 95), 0⟩ := by
  decide +kernel
theorem test_negate_completion :
    (after .arithmeticCompletion (after (.negate (ab 13 0)) st110)).entries[13].value = pos 95 := by decide +kernel
theorem test_clear_completion :
    (after .arithmeticCompletion (after (.clear (ab 13 0)) st110)).entries[13].value = pos 0 := by decide +kernel
theorem test_setattr_refused : ((after (.setattr { ab 9 0x02 with i1 := 0xFF }) st110).ring.map fun c => c.status)
    = [.attrInvalid] := by decide +kernel
theorem test_setattr_saturate : (after (.setattr { ab 9 0x33 with i1 := 0xFF }) st110).entries[9].attr
    = ⟨3, .saturate, none, true⟩ := by decide +kernel
theorem test_setthresh_side : (after (.setthresh { imm 3 0 0x04 0x20 with b := 2 }) st412).entries[3].side
    = .atOrAbove := by decide +kernel
/-- Section 4.12.1. -/
theorem test_chanconfig_4_12_1 : (after (.chanconfig chan2) State.reset).chans[2].record
    = ⟨true, .rising, 3, 10, 250, .add, 4⟩ ∧ (after (.chanconfig chan2) State.reset).chans[2].input = .arming := by
  decide +kernel
theorem test_chanclear : ((after (.chanclear (ab 0 0)) st312).ring.map fun c => c.status) = [.inBatch]
    ∧ (after (.chanclear (ab 1 0)) (chanAt 1 { armed 1 with units := 9 } State.reset)).chans[1].units = 0 := by
  decide +kernel
/-- Section 6.11, step 1: BATCHLIMIT 200. -/
theorem test_batch_open_6_11 : (after (.batchOpen (ab 0 0)) (State.reset.withBatchLimit ⟨200, 0⟩)).batch
    = ⟨.opened, .abort, [], some 200, false, false⟩ := by decide +kernel
/-- Section 6.11, step 9: the threshold of entry 3, +3 000 with filter DOWN. -/
def st611 : State :=
  (entryAt 3 ⟨pos 2700, ⟨12, .wrap, none, false⟩, some ⟨pos 3000, .down⟩, .atOrAbove, true⟩ State.reset).withBatch
    ⟨.opened, .abort, [⟨3, pos 4200⟩], some 150, false, false⟩
theorem test_batch_commit_6_11 :
    let t := after (.batchCommit (ab 0 0)) st611
    t.events.records = [⟨0, ⟨.threshold, 3, 2⟩⟩] ∧ t.entries[3].held = false ∧ t.entries[3].value = pos 2700
      ∧ t.batch.phase = .none := by decide +kernel
/-- Section 6.12, step 9. -/
theorem test_batch_abort_6_12 : (after (.batchAbort (ab 0 0)) st611).engine.inFlight = some ⟨.restore (pos 4200), 3⟩
    ∧ (after (.batchAbort (ab 0 0)) st611).batch.phase = .unwinding := by decide +kernel

/-! ### The report link -/

/-- Section 9.10: entries 3 and 13, a FOLLOWED link IDLE, MSB first. -/
def st910 : State := (entryAt 3 (wrapEntry 12 none (pos 4200)) st110).withLink { Link.cleared with ctrl := 0x03, state := .idle }
/-- Section 9.10: the REPORT of tag 5Ah. -/
def report5A : Operands := { ab 2 3 with tag := 0x5A, i0 := 13 }
theorem test_report_frame_9_10 :
    ((after (.report report5A) st910).link.state.frame.map fun f => f.bytes)
      = some [0xD4, 0x5A, 0x02, 0x03, 0x0C, 0, 0, 0, 0, 0x42, 0, 0x0D, 0x82, 0, 0, 0, 0, 0, 0x95, 0x2F] := by
  decide +kernel
/-- Section 9.10: the first bits of the header in both orders. -/
theorem test_frame_bits_9_10 :
    ((List.range 8).map (cellBit ⟨true, 0, false, [0xD4], 0, none, true, 0⟩)) = [true, true, false, true, false, true, false, false]
      ∧ ((List.range 8).map (cellBit ⟨true, 0, true, [0xD4], 0, none, true, 0⟩))
        = [false, false, true, false, true, false, true, true] := by decide +kernel
theorem test_report_periodic : (after (.reportPeriodic { ab 1 0 with tag := 0x70 }) State.reset).link.template
    = some ⟨0x70, true, [0]⟩ := by decide +kernel
/-- Section 9.11, after step 3: 5Ah under way in DRIVEN mode, 70h and 5Bh behind it, the template present. -/
def st911 : State :=
  let j : Job := ⟨0x5A, false, [3, 13]⟩
  State.reset.withLink ⟨[j, ⟨0x70, true, [0]⟩, ⟨0x5B, false, [9]⟩], some ⟨0x70, true, [0]⟩, 0x09, 0,
    .sending ⟨false, 2, false, frameBytes State.reset j, 160, none, false, 1⟩, .state, 0⟩
theorem test_linkstatus_9_11 : (after .linkstatus st911).busOut = 0x0F
    ∧ (after .linkstatus (after .linkstatus st911)).busOut = 0x5A := by decide +kernel
theorem test_frame_completion_9_11 : (after .frameCompletion st911).events.records = [⟨0, ⟨.reportDone, 0x5A, 2⟩⟩]
    ∧ ((after .frameCompletion st911).link.jobs.map fun j => j.tag) = [0x70, 0x5B] := by decide +kernel
theorem test_driven_frame_ends_at_sample :
    ((after (.sample 0) st911).link.jobs.map fun j => j.tag) = [0x70, 0x5B] := by decide +kernel
theorem test_linkctrl_disable_9_11 : (after (.linkctrl 0x08) st911).events.records = [⟨0, ⟨.reportAborted, 0x5A, 0⟩⟩]
    ∧ (after (.linkctrl 0x08) st911).link.state = .off := by decide +kernel
theorem test_linkctrl_enable : ((after (.linkctrl 0x09) (after (.linkctrl 0x08) st911)).link.state.frame.map
    fun f => f.bytes.take 2) = some [0xD4, 0x70] := by decide +kernel
/-- Section 11.7.1: FOLLOWED frames of 12 bytes, LINKTIMEOUT 20, `cells` begun and a timeout count. -/
def st1171 (cells timeout : Nat) (state : Frame → LinkState) : State :=
  let j : Job := ⟨0x61, false, [3]⟩
  State.reset.withLink ⟨[j, ⟨0x62, false, [10]⟩], none, 0x03, 20,
    state ⟨true, 0, false, frameBytes State.reset j, cells, some timeout, true, 1⟩, .state, 0⟩
theorem test_link_timeout_11_7_1 :
    (after .linkTimeout (st1171 40 1 .sending)).events.records = [⟨0, ⟨.reportTimeout, 0x61, 0⟩⟩]
      ∧ ((after .linkTimeout (st1171 40 1 .sending)).link.state.frame.bind fun f => f.timeout) = some 20 := by
  decide +kernel
theorem test_tick_times_out_11_7_1 : after .millisecondTick (st1171 40 1 .sending)
    = (after .linkTimeout (st1171 40 1 .sending)).withTimebase ⟨32, 1⟩ := by decide +kernel
theorem test_first_falling_edge_11_7_1 :
    (after .lclkFallingEdge (st1171 0 20 .ready)).link.state.frame.map (fun f => f.cells) = some 1
      ∧ lrdy (after .lclkFallingEdge (st1171 0 20 .ready)) = false ∧ lrdy (st1171 0 20 .ready) = true := by
  decide +kernel
theorem test_last_rising_edge_11_7_1 :
    ((after .lclkRisingEdge (st1171 96 7 .sending)).link.jobs.map fun j => j.tag) = [0x62] := by decide +kernel
theorem test_rising_edge_reloads :
    ((after .lclkRisingEdge (st1171 95 7 .sending)).link.state.frame.bind fun f => f.timeout) = some 20 := by
  decide +kernel

/-! ### The register window -/

/-- A ring of n records. -/
def ringOf (n : Nat) : List Completion := List.replicate n ⟨0x01, 0x00, .done, FlagWord.cleared⟩

/-- A state whose staged bytes are a record. -/
def staged (r : CmdRec) (s : State) : State := s.withWindow { s.window with staging := r }

/-- Section 5.9, step 1: 15 records unread; a MARK fills the ring. -/
theorem test_submit_mark_5_9 :
    let t := after (.submit 0) (staged (recordOf .mark (ab 0 0)) (State.reset.withRing (ringOf 15)))
    t.ring.length = 16 ∧ t.seq = .idle ∧ t.window.submit = .accepted
      ∧ t.window.irqFlag = ⟨true, false, false, true⟩ := by decide +kernel
/-- Section 5.9, step 2: the ring full. -/
theorem test_submit_stalls_5_9 :
    let t := after (.submit 0) (staged (recordOf .add (imm 7 0 0 5)) (State.reset.withRing (ringOf 16)))
    t.seq = .stalled ∧ t.cmdQueue.length = 1 := by decide +kernel
/-- Section 5.9, before step 6: the queue and the ring full. -/
def st59 : State :=
  ((State.reset.withRing (ringOf 16)).withCmdQueue (List.replicate 16 (recordOf .add (imm 7 0 0 5)))).withSeq .stalled
theorem test_comppop_5_9 :
    let t := after (.comppop 0) st59
    t.cmdQueue.length = 15 ∧ t.ring.length = 15 ∧ t.window.irqFlag = ⟨false, false, true, false⟩
      ∧ t.engine.inFlight = some ⟨.add (pos 5), 7⟩ := by decide +kernel
/-- Section 7.4, before step 4: numbers 17 to 40, two events lost. -/
def st74 : State :=
  State.reset.withEvents ⟨(List.range 24).map fun n => ⟨byteOf (17 + n), ⟨.threshold, 0, 1⟩⟩, 2, 41⟩
theorem test_evtpop_7_4 :
    (after (.evtpop 0) st74).events.records.getLast? = some ⟨41, ⟨.lost, 0, 2⟩⟩
      ∧ ((after (.evtpop 0) st74).events.records.head?.map fun r => r.seqNo) = some 18
      ∧ (after (.evtpop 0) st74).events.lost = 0 ∧ (after (.evtpop 0) st74).events.nextSeq = 42 := by decide +kernel
theorem test_irqflag_clears :
    (after (.irqflag 0x01) (setComp (setEvt State.reset))).window.irqFlag = ⟨false, true, false, false⟩ := by
  decide +kernel
theorem test_irqen_lowers_irqn : irqnLow (after (.irqen 0x02) (setEvt State.reset)) = true
    ∧ irqnLow (after (.irqen 0xFD) (setEvt State.reset)) = false := by decide +kernel
/-- Section 10.7.1, steps 1 and 4. -/
def st1071 (v : Dec) (held : Bool) : State :=
  let s := entryAt 10 { wrapEntry 4 (some 11) v with held := held } State.reset
  s.withWindow { s.window with accSel := 10 }
theorem test_capture_10_7_1 : (after .accumulatorCapture (st1071 (pos 9105) false)).busOut = 0x04
    ∧ (after .accumulatorCapture (st1071 (pos 9105) false)).window.accBuf = #v[0x04, 0, 0, 0, 0, 0x91, 0x05]
    ∧ (after .accumulatorCapture (st1071 (pos 605) true)).window.accBuf = #v[0x44, 0, 0, 0, 0, 0x06, 0x05] := by
  decide +kernel
theorem test_read_capture_10_7_1 :
    (after (.readAccess 0x26) (after .accumulatorCapture (st1071 (pos 9105) false))).busOut = 0x91 := by decide +kernel
/-- R48: a divider count of 7 shows 6. -/
theorem test_channel_capture :
    (after .channelCapture (chanAt 0 { armed 0 with
      record := ⟨true, .rising, 0, 10, 1, .add, 0⟩, divCount := 7, units := 3, dropped := 0x123, overrun := true
      rateLatch := 0x456 } State.reset)).window.chBuf = #v[0x03, 3, 0x01, 0x23, 0x04, 0x56, 6] := by decide +kernel
theorem test_intcount_pair :
    let t := after .intcount (State.reset.withInterval ⟨true, true, 5, 0x1234, 0, 0⟩)
    t.busOut = 0x12 ∧ (after (.readAccess 0x34) t).busOut = 0x34 := by decide +kernel
/-- Section 8.9, steps 3, 6 and 8: the count is kept. -/
theorem test_interval_write_8_9 :
    (after (.intervalWrite 2) (State.reset.withInterval ⟨true, true, 0, 3, 0, 0⟩)).interval.count = 3
      ∧ (after (.intervalWrite 5) (State.reset.withInterval ⟨true, true, 3, 1, 0, 0⟩)).interval = ⟨true, true, 5, 1, 0, 0⟩ := by
  decide +kernel
/-- Section 8.9, step 0. -/
theorem test_tbctrl_8_9 : (after (.tbctrl 0x03) (State.reset.withInterval ⟨false, false, 3, 0, 0, 0⟩)).interval
    = ⟨true, true, 3, 3, 0, 0⟩ := by decide +kernel
theorem test_register_write : (after (.registerWrite 0x0F 0x50) State.reset).window.staging.ops.i6 = 0x50
    ∧ (after (.registerWrite 0x20 0xE3) State.reset).window.accSel = 3 := by decide +kernel
/-- R181: EXECUTING in an OPEN batch reads 01 010 011, that is, busy, code 3 and batch code 1. -/
theorem test_status_read : (after (.readAccess 0x00) st510).busOut = 0x17 := by decide +kernel

/-! ### Witnesses: states and operands that meet the hypotheses of the statements -/

/-- The invariant, first part. -/
abbrev InvA (s : State) : Prop :=
  StoreSound s.entries ∧ UndoSound s.entries s.batch.undo ∧ BatchSound s ∧ handSound s = true

/-- The invariant, second part. -/
abbrev InvB (s : State) : Prop :=
  flightSound s = true ∧ spaceSound s = true ∧ QueueSound s.cmdQueue ∧ RingSound s ∧ SidesSound s ∧ RequestSound s

/-- The invariant, third part. -/
abbrev InvC (s : State) : Prop :=
  restSound s = true ∧ EventSound s.events ∧ ChansSound s ∧ TimebaseSound s.timebase ∧ LinkSound s.link

theorem inv_of_parts {s : State} (h1 : InvA s := by decide +kernel) (h2 : InvB s := by decide +kernel)
    (h3 : InvC s := by decide +kernel) (h4 : HostQuiet s := by decide +kernel) : Inv s :=
  let ⟨a, b, c, d⟩ := h1
  let ⟨e, f, g, i, j, k⟩ := h2
  let ⟨l, m, n, o, p⟩ := h3
  ⟨⟨a, b, c, d, e, f, g, i, j⟩, k, l, m, n, o, p, h4⟩

/-- An ADD of +5 to entry 7. -/
def addOps : Operands := imm 7 0 0x00 0x05
/-- A post of channel 0 to entry 0 in flight. -/
def sBusy : State := posting 0 1 .add 0 State.reset
/-- An ADD WAITING behind a post. -/
def sWaiting : State :=
  ((sBusy.withEngine { sBusy.engine with cmdReq := true }).withSeq (.waiting (recordOf .add addOps))).withOwed true
/-- An ADD EXECUTING outside a batch. -/
def sExec : State := executing .add addOps State.reset
/-- An open batch, nothing written. -/
def sOpen : State := State.reset.withBatch ⟨.opened, .abort, [], some 5, false, false⟩
/-- An open batch that has written entry 3. -/
def sWrote : State :=
  (entryAt 3 { Entry.powerOn with value := pos 9, held := true } State.reset).withBatch
    ⟨.opened, .abort, [⟨3, pos 4⟩], some 1, false, false⟩
/-- An ADD of that batch EXECUTING. -/
def sMember : State := executing .add addOps (sWrote.withBatch { sWrote.batch with member := true })
/-- The same with its timer's expiry deferred. -/
def sDeferred : State := sMember.withBatch { sMember.batch with timer := none, deferred := true }
/-- A batch that unwinds entry 3, its restore in flight, for a cause. -/
def sUnwinding (cause : UnwindCause) : State :=
  ((sWrote.withBatch ⟨.unwinding, cause, [⟨3, pos 4⟩], none, false, false⟩).withEngine
    ⟨some ⟨.restore (pos 4), 3⟩, .command, false, false⟩).withSeq (.unwinding none)
/-- The same with an ABORT in hand. -/
def sAborting : State := ((sUnwinding .abort).withSeq (.unwinding (some (recordOf .batchAbort (ab 0 0))))).withOwed true
/-- Two entries to unwind, the restore of entry 3 in flight. -/
def sUnwindTwo : State :=
  (entryAt 2 { Entry.powerOn with value := pos 1, held := true } (sUnwinding .void)).withBatch
    ⟨.unwinding, .void, [⟨3, pos 4⟩, ⟨2, pos 0⟩], none, false, false⟩
/-- The batch void. -/
def sVoid : State := State.reset.withBatch ⟨.void, .void, [], none, false, false⟩
/-- The sequencer STALLED on a full ring. -/
def sStalled : State :=
  ((State.reset.withRing (ringOf 16)).withCmdQueue [recordOf .mark (ab 0 0)]).withSeq .stalled
/-- The state while RSTn is held low. -/
def sLow : State := State.reset.withRstn false
/-- Twelve entries held: the undo stack is full. -/
def sFull : State :=
  (State.reset.withEntries (Vector.ofFn fun i : Fin 32 => { Entry.powerOn with held := decide (i.val < 12) })).withBatch
    ⟨.opened, .abort, (List.range 12).map fun n => ⟨accOf (byteOf n), pos 0⟩, none, false, false⟩
/-- A chain of 13 entries in an open batch: longer than the undo stack is deep. -/
def sLong : State :=
  (State.reset.withEntries (Vector.ofFn fun i : Fin 32 => { Entry.powerOn with
    attr := ⟨2, .wrap, if i.val < 12 then some (i + 1) else none, false⟩ })).withBatch
    ⟨.opened, .abort, [], none, false, false⟩
/-- Posts in flight and waiting at a busy engine; channel 2 has a unit. -/
def sPostWaits : State :=
  let s := chanAt 2 { armed 2 with units := 1 } sBusy
  s.withEngine { s.engine with postReq := true }
/-- A post in flight beside a held entry. -/
def sPostHeld : State := posting 0 1 .add 0 sWrote
/-- Event queue with n records numbered from 0 and a lost count. -/
def eventsOf (n lost : Nat) : EventQueue := ⟨(List.range n).map fun k => ⟨byteOf k, ⟨.interval, 0, 0⟩⟩, lost, byteOf n⟩

theorem witness_InvariantIsKept_waiting : Inv sWaiting := inv_of_parts
theorem witness_InvariantIsKept_executing : Inv sExec := inv_of_parts
theorem witness_InvariantIsKept_stalled : Inv sStalled := inv_of_parts
theorem witness_InvariantIsKept_void : Inv sVoid := inv_of_parts
theorem witness_InvariantIsKept_undo_full : Inv sFull := inv_of_parts
theorem witness_InvariantIsKept_long_chain : Inv sLong := inv_of_parts
theorem witness_InvariantIsKept_post_waits : Inv sPostWaits := inv_of_parts
theorem witness_step_next : step (State.reset.withPending [.rstnRise]) = .next State.reset := rfl

theorem witness_StepRunsFrontCommand : (State.reset.withPending [.grant, .rstnRise]).pending = .grant :: [.rstnRise]
    ∧ State.reset.pending = [] := by decide
theorem witness_DecimalArithmetic : 1 ≤ (⟨1, .wrap, none, false⟩ : Attr).width ∧ (pos 9).mag < 10 ^ 1 ∧ 10 ^ 1 ≤ (pos 10).mag
    ∧ (Dec.add (pos 10) (neg 10)).mag = 0 ∧ (Dec.sub (neg 3) (neg 3)).mag = 0
    ∧ (⟨1, .saturate, none, false⟩ : Attr).policy = .saturate := by decide
theorem witness_ChainWriteFrame : StoreSound st110.entries ∧ StoreSound sLong.entries
    ∧ (chainWrite st110.entries 4 (pos 39870)).1.map (fun w => w.index) = [4, 9, 20] := by decide +kernel
/-- Section 1.10, example 2. -/
theorem witness_ChainKeepsTotal : StoreSound st110.entries
    ∧ (∀ w ∈ (chainWrite st110.entries 4 (pos 39870)).1, w.outcome ≠ .saturated
      ∧ (w.outcome = .wrapped → st110.entries[w.index].attr.link.isSome = true))
    ∧ chainTotal st110.entries (chain st110.entries 4) = 419989870
    ∧ chainTotal (chainWrite st110.entries 4 (pos 39870)).2 (chain st110.entries 4) = 420019870 := by decide +kernel
/-- An entry with a threshold of +10, a value and a side. -/
def sides (v : Nat) (d : Side) : Vector Entry 32 :=
  setEntry State.reset.entries 5 ⟨pos v, ⟨12, .wrap, none, false⟩, some ⟨pos 10, .both⟩, d, false⟩
theorem witness_ThresholdEvaluation : State.reset.entries[(5 : Fin 32)].threshold = none
    ∧ (sides 10 .atOrAbove)[(5 : Fin 32)].threshold = some ⟨pos 10, .both⟩
    ∧ (pos 10).toInt ≤ (sides 10 .atOrAbove)[(5 : Fin 32)].value.toInt ∧ (sides 10 .atOrAbove)[(5 : Fin 32)].side = .atOrAbove
    ∧ (sides 9 .below)[(5 : Fin 32)].value.toInt < (pos 10).toInt ∧ (sides 9 .below)[(5 : Fin 32)].side = .below
    ∧ (sides 10 .below)[(5 : Fin 32)].side = .below ∧ (sides 9 .atOrAbove)[(5 : Fin 32)].side = .atOrAbove := by
  decide +kernel
theorem witness_FlagWordChanges : resets .powerOnReset sExec = true ∧ resets .interfaceReset sExec = true
    ∧ resets .grant sExec = false ∧ State.reset.owed = false ∧ isExecuting State.reset.seq = false ∧ sExec.owed = true
    ∧ sExec.seq = .executing (recordOf .add addOps) ∧ (opcodeOf (recordOf .add addOps).code).isSome = true
    ∧ sExec.engine.inFlight = some ⟨.add (pos 5), 7⟩ ∧ (OpKind.add (pos 5)).arbSide = .command := by decide +kernel
theorem witness_OnlyCompletionsEndOperations : exec .rstnRise sExec = .next sExec
    ∧ sExec.engine.inFlight = some ⟨.add (pos 5), 7⟩ := ⟨rfl, by decide +kernel⟩
theorem witness_FifosKeepOrder : resets (.submit 0) State.reset = false ∧ writesAt 0x10 (.submit 0) State.reset = true
    ∧ submitVerdict State.reset = .accepted ∧ writesAt 0x18 (.comppop 0) sStalled = true
    ∧ writesAt 0x1E (.registerWrite 0x1E 0) State.reset = true ∧ writesAt 0x10 (.submit 0) sLow = false := by
  decide +kernel
theorem witness_EventQueueStaysNumbered : EventSound (eventsOf 24 255) ∧ EventSound (eventsOf 23 0)
    ∧ EventSound st74.events := by decide +kernel
theorem witness_BlocksStaySound : ChansSound st312 ∧ TimebaseSound ⟨4095, 124⟩ ∧ TimebaseSound ⟨0, 0⟩
    ∧ LinkSound st911.link ∧ QueueSound st59.cmdQueue ∧ RingSound (sExec.withRing (ringOf 15)) ∧ RingSound sStalled := by
  decide +kernel
theorem witness_HostStateStaysReset : HostQuiet sLow ∧ HostQuiet (setQuiet sLow) ∧ sLow.rstn = false := by decide +kernel
theorem witness_UnwindingKeepsCommittedValues : Inv (sUnwinding .void) ∧ (sUnwinding .void).batch.phase = .unwinding
    ∧ (sUnwinding .void).entries[(3 : Fin 32)].held = true ∧ committed (sUnwinding .void) 3 = pos 4 :=
  ⟨inv_of_parts, by decide +kernel⟩
theorem witness_PostsSpareHeldEntries : Inv sPostHeld ∧ sPostHeld.entries[(3 : Fin 32)].held = true :=
  ⟨inv_of_parts, by decide +kernel⟩
theorem witness_InterfaceResetClearsHostState : RequestSound sWaiting ∧ resetsInterface .interfaceReset sWaiting = true
    ∧ resetsInterface (.init 1) sWaiting = true ∧ resetsInterface (.registerWrite 0x01 0xFF) sWaiting = true
    ∧ resetsInterface (.init 0xFE) sWaiting = false := by decide +kernel
theorem witness_InterfaceResetUnwindsBatch : Inv sMember ∧ Inv sWrote ∧ Inv sOpen
    ∧ resetsInterface (.init 1) sMember = true ∧ sExec.batch.phase = .none ∧ sVoid.batch.phase = .void
    ∧ (sUnwinding .void).batch.phase = .unwinding ∧ sMember.batch.phase = .opened
    ∧ sMember.seq = .executing (recordOf .add addOps) ∧ isExecuting sWrote.seq = false ∧ sOpen.batch.undo = []
    ∧ sWrote.batch.undo = [⟨3, pos 4⟩] ∧ engineFree sWrote = true ∧ engineFree sPostHeld = false :=
  ⟨inv_of_parts, inv_of_parts, inv_of_parts, by decide +kernel⟩
theorem witness_WindowIgnoredWhileResetLow : sLow.rstn = false ∧ (windowWrite (.registerWrite 0x3F 0)).isSome = true
    ∧ (windowRead (.readAccess 0x00)).isSome = true ∧ (windowRead .linkstatus).isSome = true := by decide
/-- Channel 0 with a qualify length of 1, a count and a divider count of 1 of 2. -/
def qual (n : Nat) : State :=
  chanAt 0 { armed 0 with record := ⟨true, .both, 1, 2, 1, .add, 0⟩, qcount := n } State.reset
theorem witness_SampleQualifies : (qual 0).cmdQueue = [] ∧ (qual 0).chans[(1 : Fin 8)].input = .disabled
    ∧ (qual 0).chans[(0 : Fin 8)].input = .armed ∧ (0x01 : Byte).getLsbD 0 ≠ (qual 0).chans[(0 : Fin 8)].level
    ∧ (qual 0).chans[(0 : Fin 8)].qcount < (qual 0).chans[(0 : Fin 8)].record.qualify
    ∧ (qual 1).chans[(0 : Fin 8)].record.qualify ≤ (qual 1).chans[(0 : Fin 8)].qcount
    ∧ (chanAt 0 { armed 0 with input := .arming } State.reset).chans[(0 : Fin 8)].input = .arming
    ∧ (sampleAll 0xFF (qual 0).chans).2 = [] ∧ (dividerStep (qual 0).timebase).2 = false ∧ drivenDue (qual 0) = false := by
  decide +kernel
theorem witness_SampleQualifies_one_event : (sampleAll 0x08 st331.chans).2 = [3]
    ∧ (dividerStep st331.timebase).2 = false ∧ drivenDue st331 = false ∧ (sampleAll 0 State.reset.chans).2 = []
    ∧ (dividerStep ⟨31, 0⟩).2 = true ∧ drivenDue State.reset = false ∧ (sampleAll 0 st911.chans).2 = []
    ∧ (dividerStep st911.timebase).2 = false ∧ drivenDue st911 = true := by decide +kernel
/-- Channel 2 armed with pending units, at an engine that is busy or FREE. -/
def arriving (units : Nat) (overrun : Bool) (s : State) : State := chanAt 2 { armed 2 with units := units, overrun := overrun } s
theorem witness_UnitArrivalCounts : (arriving 254 false sBusy).chans[(2 : Fin 8)].input = .armed
    ∧ engineFree (arriving 254 false sBusy) = false ∧ (arriving 254 false sBusy).chans[(2 : Fin 8)].units < 255
    ∧ 255 ≤ (arriving 255 true sBusy).chans[(2 : Fin 8)].units ∧ (arriving 255 true sBusy).chans[(2 : Fin 8)].overrun = true
    ∧ (arriving 255 false sBusy).chans[(2 : Fin 8)].overrun = false
    ∧ engineFree (arriving 0 false State.reset) = true ∧ (∀ k : Fin 8, (arriving 0 false State.reset).chans[k].units = 0)
    ∧ chainHeld (arriving 0 false State.reset).entries (arriving 0 false State.reset).chans[(2 : Fin 8)].record.target = false := by
  decide +kernel
/-- A unit at a FREE engine on a channel whose target is held. -/
def arrivingHeld : State :=
  chanAt 2 { armed 2 with record := ⟨true, .rising, 0, 1, 1, .add, 3⟩, units := 254 } sWrote
theorem witness_UnitArrivalCounts_held : engineFree arrivingHeld = true ∧ arrivingHeld.engine.cmdReq = false
    ∧ arrivingHeld.chans[(2 : Fin 8)].units < 255
    ∧ ∀ k : Fin 8, 0 < arrivingHeld.chans[k].units ∨ k = 2 → chainHeld arrivingHeld.entries arrivingHeld.chans[k].record.target = true := by
  decide +kernel
theorem witness_TickLowersCounts :
    let s := (sOpen.withBatch { sOpen.batch with timer := some 2 }).withInterval ⟨true, true, 5, 2, 0, 0⟩
    batchDue s.batch = false ∧ intervalDue s.interval = false ∧ timeoutDue s.link = false
      ∧ timeoutDue (st1171 0 2 .ready).link = false := by decide +kernel
theorem witness_TickBringsOneExpiry : batchDue sWrote.batch = true ∧ intervalDue sWrote.interval = false
    ∧ timeoutDue sWrote.link = false ∧ batchDue st89.batch = false ∧ intervalDue st89.interval = true
    ∧ timeoutDue st89.link = false ∧ timeoutDue (st1171 40 1 .sending).link = true
    ∧ intervalDue (st1171 40 1 .sending).interval = false ∧ batchDue (st1171 40 1 .sending).batch = false := by
  decide +kernel
theorem witness_IntervalExpiryActs : (st89.interval.run = true ∧ st89.interval.length ≠ 0 ∧ st89.interval.count ≠ 0)
    ∧ ¬(State.reset.interval.run = true ∧ State.reset.interval.length ≠ 0 ∧ State.reset.interval.count ≠ 0) := by
  decide +kernel
/-- A counting timer, an IDLE link and a template. -/
def sPeriodic : State :=
  (State.reset.withInterval ⟨true, true, 5, 1, 0, 0⟩).withLink
    { Link.cleared with ctrl := 0x09, state := .idle, template := some ⟨0x70, true, [0]⟩ }
theorem witness_IntervalExpiryActs_frame : sPeriodic.link.state = .idle ∧ sPeriodic.link.template = some ⟨0x70, true, [0]⟩
    ∧ sPeriodic.link.jobs.length < 8 ∧ sPeriodic.link.jobs ++ [⟨0x70, true, [0]⟩] = ⟨0x70, true, [0]⟩ :: []
    ∧ (sPeriodic.interval.run = true ∧ sPeriodic.interval.length ≠ 0 ∧ sPeriodic.interval.count ≠ 0)
    ∧ st89.link.state ≠ .idle := by decide +kernel
theorem witness_BatchTimerExpiryVoids : Inv sMember ∧ Inv sWrote ∧ Inv sOpen
    ∧ State.reset.batch.timer = none ∧ sMember.batch.timer.isSome = true ∧ sMember.batch.member = true
    ∧ sWrote.batch.timer.isSome = true ∧ sWrote.batch.member = false ∧ sWrote.batch.undo = [⟨3, pos 4⟩]
    ∧ engineFree sWrote = true ∧ sOpen.batch.timer.isSome = true ∧ sOpen.batch.undo = [] ∧ sOpen.cmdQueue = [] :=
  ⟨inv_of_parts, inv_of_parts, inv_of_parts, by decide +kernel⟩
theorem witness_FrameLayout : (⟨0x5A, false, []⟩ : Job).list.length ≤ 8
    ∧ (⟨0x5A, true, [0, 1, 2, 3, 4, 5, 30, 31]⟩ : Job).list.length ≤ 8
    ∧ (⟨0x5A, true, [0, 1, 2, 3, 4, 5, 30, 31]⟩ : Job).list[7]? = some 31 := by decide
theorem witness_FrameEnds : (∃ j rest f, st911.link.jobs = j :: rest ∧ st911.link.state = .sending f)
    ∧ (∃ f, (st1171 40 1 .sending).link.state.frame = some f ∧ f.timeout.isSome = true)
    ∧ (∃ f, st911.link.state.frame = some f) ∧ st911.rstn = true ∧ (0x08 : Byte).getLsbD 0 = false
    ∧ (∃ j k ks, st911.link.jobs = j :: k :: ks) ∧ (after .frameCompletion (after .frameCompletion st911)).link.jobs.length = 1 :=
  ⟨⟨_, _, _, rfl, rfl⟩, ⟨_, rfl, rfl⟩, ⟨_, rfl⟩, rfl, rfl, ⟨_, _, _, rfl⟩, by decide +kernel⟩
theorem witness_ReceiverClocksFrame : (∃ f, (st1171 0 20 .ready).link.state = .ready f ∧ f.followed = true)
    ∧ (∃ f, (st1171 95 7 .sending).link.state = .sending f ∧ f.followed = true ∧ f.cells < 8 * f.bytes.length)
    ∧ (∃ f, (st1171 96 7 .sending).link.state = .sending f ∧ f.followed = true ∧ 8 * f.bytes.length ≤ f.cells)
    ∧ (∃ f, st911.link.state.frame = some f ∧ f.followed = false) :=
  ⟨⟨_, rfl, rfl⟩, ⟨_, rfl, rfl, by decide +kernel⟩, ⟨_, rfl, rfl, by decide +kernel⟩, ⟨_, rfl, rfl⟩⟩
theorem witness_LinkctrlEnablesLink : State.reset.rstn = true ∧ (0x03 : Byte).getLsbD 0 = true ∧ State.reset.link.state = .off
    ∧ State.reset.link.jobs = [] ∧ (State.reset.withLink { Link.cleared with jobs := [⟨1, false, [0]⟩] }).link.state = .off
    ∧ st910.link.state = .idle ∧ st911.link.state ≠ .off := by decide +kernel
theorem witness_LinkctrlEnablesLink_lines : (∃ f, (st1171 0 20 .ready).link.state = .ready f)
    ∧ (∃ f, st911.link.state = .sending f ∧ f.followed = false ∧ f.cells = 159 + 1)
    ∧ (∃ f, (st1171 0 20 .sending).link.state = .sending f ∧ f.cells = 0) := ⟨⟨_, rfl⟩, ⟨_, rfl, rfl, rfl⟩, ⟨_, rfl, rfl⟩⟩
theorem witness_GrantStartsOperation : engineFree sBusy = false ∧ State.reset.engine.postReq = false
    ∧ State.reset.engine.cmdReq = false
    ∧ (let s := sWaiting.withEngine ⟨none, .post, true, true⟩
       engineFree s = true ∧ s.engine.cmdReq = true ∧ s.engine.lastGranted = .post ∧ s.batch.phase ≠ .unwinding
        ∧ s.seq = .waiting (recordOf .add addOps) ∧ opcodeOf (recordOf .add addOps).code = some .add
        ∧ arithOp .add addOps s.entries = some ⟨.add (pos 5), 7⟩) := by decide +kernel
theorem witness_GrantStartsOperation_restore :
    let s := (sUnwinding .abort).withEngine ⟨none, .command, false, true⟩
    engineFree s = true ∧ s.engine.cmdReq = true ∧ s.engine.postReq = false ∧ s.batch.phase = .unwinding
      ∧ s.batch.undo = [⟨3, pos 4⟩] := by decide +kernel
theorem witness_GrantStartsOperation_post :
    let s := sPostWaits.withEngine ⟨none, .command, true, true⟩
    engineFree s = true ∧ s.engine.postReq = true ∧ s.engine.lastGranted = .command ∧ chooseChan s = some 2
      ∧ chooseChan (State.reset.withEngine ⟨none, .command, true, false⟩) = none := by decide +kernel
theorem witness_RoundRobinChoice : chooseChan sPostWaits = some 2 ∧ (0 : Fin 8) < 2 - sPostWaits.schedPtr
    ∧ chooseChan State.reset = none := by decide +kernel
theorem witness_PostCompletionPosts : sBusy.engine.inFlight = some ⟨.post 0 1 .add, 0⟩ ∧ sBusy.engine.postReq = false
    ∧ sBusy.engine.cmdReq = false ∧ sWaiting.engine.inFlight = some ⟨.post 0 1 .add, 0⟩ ∧ sWaiting.engine.cmdReq = true
    ∧ sWaiting.engine.lastGranted = .post ∧ sWaiting.batch.phase ≠ .unwinding
    ∧ sWaiting.seq = .waiting (recordOf .add addOps) ∧ opcodeOf (recordOf .add addOps).code = some .add
    ∧ arithOp .add addOps (after .postCompletion sWaiting).entries = some ⟨.add (pos 5), 7⟩ := by decide +kernel
/-- A post that wraps entry 4 with notify-wrap on and lowers it below its threshold, with n events queued. -/
def sTwoSeries (n : Nat) : State :=
  posting 0 200 .add 4 ((entryAt 4 ⟨pos 9900, ⟨4, .wrap, none, true⟩, some ⟨pos 9500, .down⟩, .atOrAbove, false⟩
    State.reset).withEvents (eventsOf n 0))
theorem witness_PostEventsKeepTheirOrder :
    let s := sTwoSeries 22
    let w := opWrites ⟨.post 0 200 .add, 4⟩ s.entries
    s.engine.inFlight = some ⟨.post 0 200 .add, 4⟩ ∧ postEvents w.2 w.1 = [⟨.wrap, 4, 0⟩]
      ∧ (evaluateAll w.2 (w.1.map fun x => x.index)).2 = [⟨.threshold, 4, 2⟩]
      ∧ s.events.records.length + (postEvents w.2 w.1).length + (evaluateAll w.2 (w.1.map fun x => x.index)).2.length ≤ 24 := by
  decide +kernel
theorem witness_ArithmeticCompletionOutsideBatch : sExec.seq = .executing (recordOf .add addOps)
    ∧ opcodeOf (recordOf .add addOps).code = some .add ∧ sExec.engine.inFlight = some ⟨.add (pos 5), 7⟩
    ∧ (OpKind.add (pos 5)).arbSide = .command ∧ sExec.owed = true ∧ sExec.batch.member = false ∧ sExec.batch.phase = .none
    ∧ sExec.cmdQueue = [] ∧ sExec.engine.postReq = false ∧ sExec.engine.cmdReq = false ∧ StoreSound sExec.entries := by
  decide +kernel
theorem witness_ArithmeticCompletionInBatch : Inv sMember ∧ Inv sDeferred
    ∧ sMember.seq = .executing (recordOf .add addOps) ∧ sMember.engine.inFlight = some ⟨.add (pos 5), 7⟩
    ∧ sMember.owed = true ∧ sMember.batch.member = true ∧ sMember.batch.phase = .opened ∧ sMember.cmdQueue = []
    ∧ sMember.engine.postReq = false ∧ sMember.batch.deferred = false ∧ sDeferred.batch.deferred = true
    ∧ (after .arithmeticCompletion sDeferred).batch.undo = [⟨7, pos 0⟩, ⟨3, pos 4⟩] :=
  ⟨inv_of_parts, inv_of_parts, by decide +kernel⟩
/-- The member of the batch found EXECUTING by an INIT. -/
def sResetMember : State := after (.init 1) sMember
/-- A COMPARE of a batch that has written nothing, found EXECUTING by an INIT. -/
def sResetCompare : State := after (.init 1) (executing .compare addOps (sOpen.withBatch { sOpen.batch with member := true }))
/-- The member found EXECUTING by an INIT while a post waits. -/
def sResetPostWaits : State :=
  let s := chanAt 2 { armed 2 with units := 1 } sResetMember
  s.withEngine { s.engine with postReq := true }
theorem witness_ArithmeticCompletionInBatch_reset : Inv sResetMember ∧ Inv sResetCompare ∧ Inv sResetPostWaits
    ∧ sResetMember.seq = .executing (recordOf .add addOps) ∧ sResetMember.engine.inFlight = some ⟨.add (pos 5), 7⟩
    ∧ sResetMember.owed = false ∧ sResetMember.batch.member = true ∧ sResetMember.batch.phase = .unwinding
    ∧ (after .arithmeticCompletion sResetMember).batch.undo = [⟨7, pos 0⟩, ⟨3, pos 4⟩] ∧ sResetMember.engine.postReq = false
    ∧ (after .arithmeticCompletion sResetCompare).batch.undo = [] ∧ sResetCompare.cmdQueue = []
    ∧ sResetCompare.batch.phase = .unwinding ∧ sResetPostWaits.engine.postReq = true
    ∧ eligible { sResetPostWaits with entries := (after .arithmeticCompletion sResetPostWaits).entries } 2 = true :=
  ⟨inv_of_parts, inv_of_parts, inv_of_parts, by decide +kernel⟩
theorem witness_RestoreCompletionUnwinds : Inv sAborting ∧ Inv sUnwindTwo ∧ Inv (sUnwinding .reset)
    ∧ sAborting.engine.inFlight = some ⟨.restore (pos 4), 3⟩ ∧ sAborting.batch.undo = [⟨3, pos 4⟩]
    ∧ sAborting.seq = .unwinding (some (recordOf .batchAbort (ab 0 0))) ∧ sAborting.owed = true ∧ sAborting.cmdQueue = []
    ∧ sUnwindTwo.batch.undo = [⟨3, pos 4⟩, ⟨2, pos 0⟩] ∧ (∀ ch : Fin 8, sUnwindTwo.chans[ch].units = 0)
    ∧ (sUnwinding .void).seq = .unwinding none :=
  ⟨inv_of_parts, inv_of_parts, inv_of_parts, by decide +kernel⟩
/-- A channel that the restore of entry 3 releases. -/
def sReleases : State := chanAt 2 { armed 2 with record := ⟨true, .rising, 0, 1, 1, .add, 3⟩, units := 1 } (sUnwinding .void)
theorem witness_RestoreCompletionUnwinds_post : Inv sReleases
    ∧ eligible { sReleases with entries := (after .restoreCompletion sReleases).entries } 2 = true :=
  ⟨inv_of_parts, by decide +kernel⟩
theorem witness_TakeThenPassOn : canTake (recordOf .mark (ab 0 0)) sLow = false
    ∧ canTake (recordOf .mark (ab 0 0)) State.reset = true ∧ State.reset.cmdQueue.length ≤ 15
    ∧ (let s := State.reset.withCmdQueue (List.replicate 16 (recordOf .mark (ab 0 0)))
       canTake (recordOf .mark (ab 0 0)) s = true ∧ s.cmdQueue.length = 16)
    ∧ canTake (recordOf .mark (ab 0 0)) (State.reset.withCmdQueue (List.replicate 15 (recordOf .mark (ab 0 0)))) = true := by
  decide +kernel
theorem witness_VoidRefusesEveryCommand : LastTake .batchCommit (under (ab 0 0) 1) sVoid ∧ LastTake .add addOps sVoid
    ∧ sVoid.batch.phase = .void := by decide +kernel
theorem witness_FalseConditionSkips : LastTake .setattr { ab 0 0x04 with cond := 7 } State.reset
    ∧ LastTake .batchCommit (under (ab 0 0) 1) sOpen ∧ State.reset.batch.phase = .none ∧ sOpen.batch.phase = .opened
    ∧ condHolds 7 State.reset.flags = false ∧ condHolds 1 sOpen.flags = false := by decide +kernel
theorem witness_ClassRefusals : LastTake .chanclear (ab 7 0) sOpen ∧ LastTake .batchOpen (ab 0 0) sOpen
    ∧ LastTake .batchAbort (ab 0 0) State.reset ∧ condHolds (ab 7 0).cond sOpen.flags = true ∧ isConfig .chanclear = true
    ∧ isConfig .report = false ∧ sOpen.batch.phase = .opened ∧ State.reset.batch.phase = .none := by decide +kernel
theorem witness_MarkCompletes : LastTake .mark (ab 0 0) sVoid ∧ LastTake .mark (under (ab 0 0) 8) State.reset
    ∧ LastTake .mark (under (ab 0 0) 7) sOpen := by decide +kernel
theorem witness_EntrySettings : LastRun .setattr (ab 31 0x01) State.reset ∧ LastRun .setattr { ab 9 0x02 with i1 := 0xFF } st110
    ∧ ¬(st110.entries[(9 : Fin 32)].value.mag < 10 ^ 2) ∧ LastRun .setthresh (ab 0 0) State.reset
    ∧ LastRun .setthresh { imm 9 0 0x09 0x99 with b := 1 } st110 ∧ LastRun .setthresh { imm 9 0 0x10 0x00 with b := 3 } st110
    ∧ ({ imm 9 0 0x09 0x99 with b := 1 } : Operands).immediate.mag < 10 ^ 3
    ∧ 10 ^ 3 ≤ ({ imm 9 0 0x10 0x00 with b := 3 } : Operands).immediate.mag := by decide +kernel
theorem witness_ChannelSettings : LastRun .chanconfig chan2 State.reset ∧ LastRun .chanclear (ab 7 0) State.reset
    ∧ (let s := chanAt 2 { armed 2 with units := 1 } sBusy
       LastRun .chanconfig chan2 s ∧ 0 < s.chans[(2 : Fin 8)].units ∧ chan2.chanRecord.target ≠ s.chans[(2 : Fin 8)].record.target)
    ∧ State.reset.chans[(2 : Fin 8)].units = 0 := by decide +kernel
theorem witness_BatchOpens : LastRun .batchOpen (ab 0 0) State.reset := by decide +kernel
theorem witness_BatchCommits : LastRun .batchCommit (ab 0 0) sWrote ∧ (∀ ch : Fin 8, sWrote.chans[ch].units = 0)
    ∧ sWrote.engine.cmdReq = false ∧ engineFree sWrote = true := by decide +kernel
theorem witness_BatchCommits_pending :
    let s := chanAt 2 { armed 2 with record := ⟨true, .rising, 0, 1, 1, .add, 3⟩, units := 2 } sWrote
    let p := posting 0 1 .add 0 s
    LastRun .batchCommit (ab 0 0) s ∧ engineFree s = true ∧ s.engine.cmdReq = false ∧ 0 < s.chans[(2 : Fin 8)].units
      ∧ (∀ k : Fin 8, k < 2 - s.schedPtr → s.chans[s.schedPtr + k].units = 0)
      ∧ LastRun .batchCommit (ab 0 0) p ∧ engineFree p = false ∧ 0 < p.chans[(2 : Fin 8)].units := by decide +kernel
theorem witness_BatchAborts : LastRun .batchAbort (ab 0 0) sOpen ∧ sOpen.batch.undo = []
    ∧ LastRun .batchAbort (ab 0 0) sPostHeld ∧ engineFree sPostHeld = false ∧ sPostHeld.batch.undo = [⟨3, pos 4⟩]
    ∧ LastRun .batchAbort (ab 0 0) sWrote ∧ engineFree sWrote = true ∧ sWrote.engine.postReq = false := by decide +kernel
theorem witness_ReportsQueueJobs : LastRun .report (ab 8 0) State.reset ∧ State.reset.link.jobs.length < 8
    ∧ State.reset.link.state ≠ .idle ∧ LastRun .report report5A st910 ∧ st910.link.state = .idle
    ∧ st910.link.jobs ++ [(⟨0x5A, false, [3, 13]⟩ : Job)] = ⟨0x5A, false, [3, 13]⟩ :: []
    ∧ LastRun .reportPeriodic (ab 0 0) State.reset ∧ LastRun .reportPeriodic (ab 8 0) sOpen
    ∧ (let s := State.reset.withLink { Link.cleared with jobs := List.replicate 8 ⟨0, false, [0]⟩ }
       LastRun .report (ab 1 0) s ∧ 8 ≤ s.link.jobs.length) := by decide +kernel
theorem witness_ArithmeticTakes : isArith .compare = true ∧ LastRun .compare addOps sBusy ∧ engineFree sBusy = false
    ∧ sBusy.batch.phase = .none ∧ LastRun .add addOps sOpen ∧ engineFree sOpen = true ∧ sOpen.engine.postReq = false
    ∧ undoShort sOpen (accOf addOps.a) = false ∧ LastRun .sub (ab 12 0) sFull ∧ undoShort sFull (accOf 12) = true
    ∧ sFull.batch.undo ≠ [] ∧ sFull.batch.phase = .opened ∧ undoShort sFull (accOf 11) = false
    ∧ LastRun .negate (ab 0 0) sLong ∧ undoShort sLong (accOf 0) = true ∧ undoShort sLong (accOf 1) = false
    ∧ sLong.batch.undo = [] := by decide +kernel
theorem witness_SubmitDecides : malformed (staged ⟨0x07, ab 0 0⟩ State.reset).window.staging = true
    ∧ malformed State.reset.window.staging = false ∧ 16 ≤ st59.cmdQueue.length ∧ hasCommand sExec = true
    ∧ sExec.cmdQueue.length < 16 ∧ sStalled.seq = .stalled ∧ (sUnwinding .void).seq = .unwinding none
    ∧ hasCommand (sUnwinding .void) = false ∧ State.reset.seq = .idle ∧ (State.reset.withRing (ringOf 16)).ring.length = 16
    ∧ (State.reset.withRing (ringOf 15)).ring.length < 16 ∧ opcodeOf State.reset.window.staging.code = some .mark := by
  decide +kernel
theorem witness_SubmitDecides_inv : Inv (State.reset.withRing (ringOf 16)) ∧ Inv (State.reset.withRing (ringOf 15))
    ∧ Inv st59 := ⟨inv_of_parts, inv_of_parts, inv_of_parts⟩
theorem witness_CompletionPop : Inv sStalled ∧ Inv (State.reset.withRing (ringOf 1)) ∧ State.reset.ring = []
    ∧ (State.reset.withRing (ringOf 1)).seq ≠ .stalled ∧ sStalled.seq = .stalled
    ∧ sStalled.cmdQueue = [recordOf .mark (ab 0 0)] ∧ opcodeOf (recordOf .mark (ab 0 0)).code = some .mark :=
  ⟨inv_of_parts, inv_of_parts, by decide +kernel⟩
theorem witness_EventPop : State.reset.events.records = [] ∧ State.reset.rstn = true ∧ st74.events.lost ≠ 0
    ∧ st74.events.records ≠ [] ∧ (State.reset.withEvents (eventsOf 1 0)).events.lost = 0 := by decide +kernel
theorem witness_window_writes : State.reset.rstn = true ∧ (0xFE : Byte).getLsbD 0 = false ∧ (0x01 : Byte).getLsbD 0 = true := by
  decide
theorem witness_CapturesCopyRecords : ((31 : Fin 32).val = (State.reset.withWindow
    { State.reset.window with accSel := 31 }).window.accSel.toNat) ∧ (0 : Fin 8).val = State.reset.window.chSel.toNat := by
  decide +kernel
theorem witness_PairedReads : State.reset.link.lsPhase = .state
    ∧ (State.reset.withLink { Link.cleared with lsPhase := .tag }).link.lsPhase = .tag := by decide +kernel
theorem witness_IntervalWrites : State.reset.interval.run = false
    ∧ (let s := State.reset.withInterval ⟨true, false, 0, 0, 1, 0⟩
       s.interval.run = true ∧ s.interval.count = 0 ∧ s.interval.hold ++ (0x00 : Byte) ≠ (0 : Half))
    ∧ st89.interval.count ≠ 0 := by decide +kernel
theorem witness_TbctrlWrites : State.reset.interval.run = false ∧ (0x01 : Byte).getLsbD 0 = true ∧ st89.interval.run = true
    ∧ (0x02 : Byte).getLsbD 0 = false := by decide +kernel
theorem witness_RegisterWrites : writeHasRow 0x04 0xFF = false ∧ writeHasRow 0x0F 0 = false ∧ writeHasRow 0x20 0xFF = false
    ∧ writeHasRow 0x28 0 = false ∧ writeHasRow 0x31 0 = false ∧ writeHasRow 0x35 0 = false ∧ writeHasRow 0x36 0 = false
    ∧ writeHasRow 0x39 0 = false ∧ writeHasRow 0x01 0xFE = false ∧ writeHasRow 0x3F 0 = false ∧ State.reset.rstn = true := by
  decide +kernel
theorem witness_ReadsShowState : (∀ a : Addr, readHasRow a = true ↔ a = 0x21 ∨ a = 0x29 ∨ a = 0x33 ∨ a = 0x3A)
    ∧ readHasRow 0x00 = false ∧ readHasRow 0x3F = false ∧ sStalled.ring.head?.isSome = true
    ∧ st74.events.records.head?.isSome = true := by decide +kernel

end Sys2Proof.Tests
end

section
/-! ### Decimal values, fits and chain writes -/

namespace Sys2Proof.Machine

open Sys2Proof.Safety

/-! #### Exact arithmetic and the fit -/

theorem Dec.add_toInt (a b : Dec) : (Dec.add a b).toInt = a.toInt + b.toInt := by
  obtain ⟨an, am⟩ := a
  obtain ⟨bn, bm⟩ := b
  unfold Dec.add
  dsimp only
  by_cases hsign : an = bn
  · subst hsign
    rw [if_pos rfl, Dec.make_toInt]
    cases an <;> simp [Dec.toInt]
    omega
  · obtain rfl : bn = !an := Bool.eq_not.mpr fun h => hsign h.symm
    rw [if_neg hsign]
    split
    · rename_i hle
      rw [Dec.make_toInt, Nat.cast_sub hle]
      cases an <;> simp [Dec.toInt] <;> omega
    · rename_i hlt
      rw [Dec.make_toInt, Nat.cast_sub (Nat.le_of_not_le hlt)]
      cases an <;> simp [Dec.toInt] <;> omega

theorem Dec.flip_toInt (d : Dec) : d.flip.toInt = -d.toInt := by
  unfold Dec.flip
  rw [Dec.make_toInt]
  cases h : d.neg <;> simp [Dec.toInt, h]

theorem Dec.sub_toInt (a b : Dec) : (Dec.sub a b).toInt = a.toInt - b.toInt := by
  unfold Dec.sub
  rw [Dec.add_toInt, Dec.flip_toInt, sub_eq_add_neg]

/-- R3, R28: a sum is built by `Dec.make`, so a zero sum is positive. -/
theorem Dec.add_zero_positive (a b : Dec) (h : (Dec.add a b).mag = 0) : (Dec.add a b).neg = false := by
  revert h
  unfold Dec.add
  split
  · exact Dec.make_zero_positive _ _
  · split <;> exact Dec.make_zero_positive _ _

theorem Dec.make_of_pos {neg : Bool} {mag : Nat} (h : 0 < mag) : Dec.make neg mag = ⟨neg, mag⟩ := by
  have : (mag != 0) = true := by simp; omega
  simp [Dec.make, this]

/-- R10. -/
theorem fit_inRange {a : Attr} {r : Dec} (h : r.mag < 10 ^ a.width) :
    fit a r = ⟨.inRange, Dec.make r.neg r.mag, none⟩ := by
  simp [fit, h]

/-- R11. -/
theorem fit_wrapped {a : Attr} {r : Dec} (h : 10 ^ a.width ≤ r.mag) (hp : a.policy = .wrap) :
    fit a r = ⟨.wrapped, Dec.make r.neg (r.mag % 10 ^ a.width), some (Dec.make r.neg (r.mag / 10 ^ a.width))⟩ := by
  simp [fit, Nat.not_lt.mpr h, hp]

/-- R12. -/
theorem fit_saturated {a : Attr} {r : Dec} (h : 10 ^ a.width ≤ r.mag) (hp : a.policy = .saturate) :
    fit a r = ⟨.saturated, Dec.make r.neg (10 ^ a.width - 1), none⟩ := by
  simp [fit, Nat.not_lt.mpr h, hp]

/-- Settles O3, from the exactness of `Dec.add` and one equation for each outcome of a fit. -/
theorem decimalArithmetic : Obligations.DecimalArithmetic := by
  refine ⟨fun a b => ⟨Dec.add_toInt a b, Dec.sub_toInt a b, Dec.add_zero_positive a b,
    Dec.add_zero_positive a b.flip⟩, fun a r hw => ⟨fit_inRange, fun h hp => ?_, fun h hp => ?_⟩⟩
  · have hq : 0 < r.mag / 10 ^ a.width := Nat.div_pos h (Nat.pow_pos (by omega))
    rw [fit_wrapped h hp, Dec.make_of_pos hq]
  · have h10 : 10 ^ 1 ≤ 10 ^ a.width := Nat.pow_le_pow_right (by omega) hw
    rw [fit_saturated h hp, Dec.make_of_pos (by omega)]

/-- R10: what is in range is kept exactly, and has no carry. -/
theorem fit_inRange_exact {a : Attr} {r : Dec} (h : (fit a r).outcome = .inRange) :
    (fit a r).value.toInt = r.toInt ∧ (fit a r).carry = none := by
  by_cases hr : r.mag < 10 ^ a.width
  · rw [fit_inRange hr]
    exact ⟨Dec.make_toInt _ _, rfl⟩
  · cases hp : a.policy with
    | wrap => rw [fit_wrapped (Nat.not_lt.mp hr) hp] at h; cases h
    | saturate => rw [fit_saturated (Nat.not_lt.mp hr) hp] at h; cases h

/-- R11, R15: a wrapped value and its carry stand for the exact result. -/
theorem fit_carry_exact {a : Attr} {r c : Dec} (h : (fit a r).carry = some c) :
    (fit a r).value.toInt + 10 ^ a.width * c.toInt = r.toInt := by
  by_cases hr : r.mag < 10 ^ a.width
  · rw [fit_inRange hr] at h; cases h
  · cases hp : a.policy with
    | saturate => rw [fit_saturated (Nat.not_lt.mp hr) hp] at h; cases h
    | wrap =>
      rw [fit_wrapped (Nat.not_lt.mp hr) hp] at h ⊢
      cases h
      have hdiv : ((r.mag % 10 ^ a.width : Nat) : Int) + 10 ^ a.width * ((r.mag / 10 ^ a.width : Nat) : Int)
          = (r.mag : Int) := by exact_mod_cast Nat.mod_add_div r.mag (10 ^ a.width)
      rw [Dec.make_toInt, Dec.make_toInt]
      cases hn : r.neg <;> simp only [Dec.toInt, hn, if_true, Bool.false_eq_true, if_false]
      · exact hdiv
      · rw [mul_neg, ← neg_add, hdiv]

/-! #### Chains (R14) -/

theorem chainFrom_succ (n : Nat) (es : Vector Entry 32) (i : Fin 32) :
    chainFrom (n + 1) es i = i :: match es[i].attr.link with
      | some j => chainFrom n es j
      | none => [] := rfl

theorem chainFrom_link {es : Vector Entry 32} {i j : Fin 32} (n : Nat) (h : es[i].attr.link = some j) :
    chainFrom (n + 1) es i = i :: chainFrom n es j := by
  rw [chainFrom_succ, h]

theorem chainFrom_end {es : Vector Entry 32} {i : Fin 32} (n : Nat) (h : es[i].attr.link = none) :
    chainFrom (n + 1) es i = [i] := by
  rw [chainFrom_succ, h]

/-- R4: the links of a sound store rise, and only WRAP entries have one. -/
theorem link_rises {es : Vector Entry 32} (hs : StoreSound es) {i j : Fin 32}
    (h : es[i].attr.link = some j) : i < j :=
  ((hs i).2.1.2.2 j h).1

/-- R14: no entry of a chain is below its first. -/
theorem le_of_mem_chainFrom {es : Vector Entry 32} (hs : StoreSound es) :
    ∀ (n : Nat) (i k : Fin 32), k ∈ chainFrom n es i → i ≤ k
  | 0, _, _, h => by simp [chainFrom] at h
  | n + 1, i, k, h => by
    cases hl : es[i].attr.link with
    | none =>
      rw [chainFrom_end n hl, List.mem_singleton] at h
      exact h ▸ le_refl _
    | some j =>
      rw [chainFrom_link n hl, List.mem_cons] at h
      rcases h with h | h
      · exact h ▸ le_refl _
      · exact (link_rises hs hl).le.trans (le_of_mem_chainFrom hs n j k h)

theorem not_mem_chainFrom_of_lt {es : Vector Entry 32} (hs : StoreSound es) {n : Nat} {i j : Fin 32} (h : i < j) :
    i ∉ chainFrom n es j :=
  fun hm => absurd (le_of_mem_chainFrom hs n j i hm) (not_le.mpr h)

/-- R14: a chain meets no entry twice. -/
theorem chainFrom_nodup {es : Vector Entry 32} (hs : StoreSound es) :
    ∀ (n : Nat) (i : Fin 32), (chainFrom n es i).Nodup
  | 0, _ => List.nodup_nil
  | n + 1, i => by
    cases hl : es[i].attr.link with
    | none => rw [chainFrom_end n hl]; exact List.nodup_singleton i
    | some j =>
      rw [chainFrom_link n hl]
      exact List.nodup_cons.mpr ⟨not_mem_chainFrom_of_lt hs (link_rises hs hl), chainFrom_nodup hs n j⟩

/-! #### One step of a chain write -/

theorem fitEntry_get_self (es : Vector Entry 32) (i : Fin 32) (r : Dec) :
    (fitEntry es i r).2.2[i] = { es[i] with value := (fit es[i].attr r).value } := by
  rw [fitEntry_store, setEntry_get_self]

theorem fitEntry_get_ne (es : Vector Entry 32) {i j : Fin 32} (r : Dec) (h : j ≠ i) :
    (fitEntry es i r).2.2[j] = es[j] := by
  rw [fitEntry_store, setEntry_get_ne es _ h]

theorem fitEntry_attr_eq (es : Vector Entry 32) (i : Fin 32) (r : Dec) (j : Fin 32) :
    (fitEntry es i r).2.2[j].attr = es[j].attr := by
  rw [fitEntry_attr es i r j]

/-- R2: a fitted value keeps the store sound. -/
theorem fitEntry_sound {es : Vector Entry 32} (hs : StoreSound es) (i : Fin 32) (r : Dec) :
    StoreSound (fitEntry es i r).2.2 := by
  intro k
  by_cases hk : k = i
  · subst hk
    rw [fitEntry_get_self]
    exact ⟨fit_value_fits _ r, (hs k).2⟩
  · rw [fitEntry_get_ne es r hk]
    exact hs k

theorem fitEntry_chainFrom (es : Vector Entry 32) (i : Fin 32) (r : Dec) (n : Nat) (j : Fin 32) :
    chainFrom n (fitEntry es i r).2.2 j = chainFrom n es j :=
  chainFrom_congr es _ (fitEntry_attr_eq es i r) n j

/-! #### Chain writes (R15) -/

/-- R15: the entries written are a beginning of the chain. -/
theorem chainWriteFrom_prefix : ∀ (n : Nat) (es : Vector Entry 32) (i : Fin 32) (r : Dec),
    (chainWriteFrom n es i r).1.map (fun w => w.index) <+: chainFrom n es i
  | 0, _, _, _ => List.prefix_refl []
  | n + 1, es, i, r => by
    rcases chainWriteFrom_succ n es i r with ⟨c, j, -, hl, h⟩ | ⟨-, h⟩
    · rw [h, chainFrom_link n hl, List.map_cons, List.prefix_cons_iff]
      refine .inr ⟨_, rfl, ?_⟩
      rw [← fitEntry_chainFrom es i r n j]
      exact chainWriteFrom_prefix n _ j _
    · rw [h, chainFrom_succ]
      exact List.prefix_iff_eq_append.mpr rfl

/-- R15: the target is written first. -/
theorem chainWriteFrom_head (n : Nat) (es : Vector Entry 32) (i : Fin 32) (r : Dec) :
    ∃ ws, (chainWriteFrom (n + 1) es i r).1 = ⟨i, (fit es[i].attr r).outcome, es[i].value⟩ :: ws := by
  rcases chainWriteFrom_succ n es i r with ⟨c, j, -, -, h⟩ | ⟨-, h⟩ <;> rw [h] <;> exact ⟨_, rfl⟩

theorem mem_chain_of_written {n : Nat} {es : Vector Entry 32} {i : Fin 32} {r : Dec} {w : Written}
    (h : w ∈ (chainWriteFrom n es i r).1) : w.index ∈ chainFrom n es i :=
  (chainWriteFrom_prefix n es i r).subset (List.mem_map_of_mem h)

/-- R15: an entry that is not written is left as it was. -/
theorem chainWriteFrom_untouched : ∀ (n : Nat) (es : Vector Entry 32) (i : Fin 32) (r : Dec) (k : Fin 32),
    k ∉ (chainWriteFrom n es i r).1.map (fun w => w.index) → (chainWriteFrom n es i r).2[k] = es[k]
  | 0, _, _, _, _, _ => rfl
  | n + 1, es, i, r, k, hk => by
    rcases chainWriteFrom_succ n es i r with ⟨c, j, -, -, h⟩ | ⟨-, h⟩
    · rw [h] at hk ⊢
      obtain ⟨hki, hrest⟩ := not_or.mp (mt List.mem_cons.mpr hk)
      rw [← fitEntry_get_ne es r hki]
      exact chainWriteFrom_untouched n _ j _ k hrest
    · rw [h] at hk ⊢
      exact fitEntry_get_ne es r (by simpa [fitEntry] using hk)

/-- R2: a chain write keeps the store sound. -/
theorem chainWriteFrom_sound : ∀ (n : Nat) {es : Vector Entry 32} (_ : StoreSound es) (i : Fin 32) (r : Dec),
    StoreSound (chainWriteFrom n es i r).2
  | 0, _, hs, _, _ => hs
  | n + 1, es, hs, i, r => by
    rcases chainWriteFrom_succ n es i r with ⟨c, j, -, -, h⟩ | ⟨-, h⟩ <;> rw [h]
    · exact chainWriteFrom_sound n (fitEntry_sound hs i r) j _
    · exact fitEntry_sound hs i r

/-- R38: each entry written is handed on with its value from just before. The links rise, so the entries behind the
target still hold their old values when their turn comes. -/
theorem chainWriteFrom_prior : ∀ (n : Nat) {es : Vector Entry 32} (_ : StoreSound es) (i : Fin 32) (r : Dec) (w : Written),
    w ∈ (chainWriteFrom n es i r).1 → w.prior = es[w.index].value
  | 0, _, _, _, _, _, hw => by cases hw
  | n + 1, es, hs, i, r, w, hw => by
    rcases chainWriteFrom_succ n es i r with ⟨c, j, -, hl, h⟩ | ⟨-, h⟩
    · rw [h, List.mem_cons] at hw
      rcases hw with rfl | hw
      · rfl
      · have hi : w.index ≠ i := by
          have hm := mem_chain_of_written hw
          rw [fitEntry_chainFrom] at hm
          rintro rfl
          exact not_mem_chainFrom_of_lt hs (link_rises hs hl) hm
        rw [chainWriteFrom_prior n (fitEntry_sound hs i r) j _ w hw, fitEntry_get_ne es r hi]
    · rw [h, List.mem_singleton] at hw
      rw [hw]
      rfl

/-- Settles O4, from the lemmas on `chainWriteFrom`, each by induction on the fuel. -/
theorem chainWriteFrame : Obligations.ChainWriteFrame := by
  intro es i r hs
  refine ⟨?_, chainWriteFrom_prefix _ es i r, chainWriteFrom_prior _ hs i r, chainWriteFrom_untouched _ es i r,
    chainWriteFrom_attr _ es i r, chainWriteFrom_sound _ hs i r⟩
  obtain ⟨ws, h⟩ := chainWriteFrom_head 31 es i r
  exact ⟨ws.map fun w => w.index, congrArg (List.map fun w => w.index) h⟩

/-! #### The total of a chain -/

theorem chainTotal_congr {es es' : Vector Entry 32} : ∀ {is : List (Fin 32)},
    (∀ k ∈ is, es'[k] = es[k]) → chainTotal es' is = chainTotal es is
  | [], _ => rfl
  | i :: is, h => by
    unfold chainTotal
    rw [h i List.mem_cons_self, chainTotal_congr fun k hk => h k (List.mem_cons_of_mem i hk)]

theorem chainWriteFrom_get_of_lt {es : Vector Entry 32} (hs : StoreSound es) (n : Nat) {i j : Fin 32} (r : Dec)
    (h : i < j) : (chainWriteFrom n es j r).2[i] = es[i] :=
  chainWriteFrom_untouched n es j r i fun hm =>
    not_mem_chainFrom_of_lt hs h ((chainWriteFrom_prefix n es j r).subset hm)

/-- R15 (note): the total of a chain whose end the fuel reaches. A wrapped digit group and the carry handed to the next
entry stand for the exact result together, so the carry moves value up the chain and loses none. -/
theorem chainWriteFrom_total : ∀ (n : Nat) {es : Vector Entry 32} (_ : StoreSound es) (i : Fin 32) (r : Dec),
    32 ≤ n + i.val →
    (∀ w ∈ (chainWriteFrom n es i r).1, w.outcome ≠ .saturated
      ∧ (w.outcome = .wrapped → es[w.index].attr.link.isSome = true)) →
    chainTotal (chainWriteFrom n es i r).2 (chainFrom n es i)
      = chainTotal es (chainFrom n es i) + (r.toInt - es[i].value.toInt)
  | 0, _, _, i, _, hn, _ => absurd i.isLt (by omega)
  | n + 1, es, hs, i, r, hn, hw => by
    have hself := fitEntry_get_self es i r
    have hs1 := fitEntry_sound hs i r
    rcases chainWriteFrom_succ n es i r with ⟨c, j, hc, hl, h⟩ | ⟨hstop, h⟩
    · have hij := link_rises hs hl
      have hij' : i.val < j.val := hij
      rw [h] at hw ⊢
      have ih := chainWriteFrom_total n hs1 j (Dec.add (fitEntry es i r).2.2[j].value c) (by omega) fun w hm => by
        rw [fitEntry_attr_eq]
        exact hw w (List.mem_cons_of_mem _ hm)
      have hrest : chainTotal (fitEntry es i r).2.2 (chainFrom n es j) = chainTotal es (chainFrom n es j) :=
        chainTotal_congr fun k hk => fitEntry_get_ne es r fun hki =>
          not_mem_chainFrom_of_lt hs hij (hki ▸ hk)
      rw [fitEntry_chainFrom, hrest, Dec.add_toInt] at ih
      rw [chainFrom_link n hl]
      unfold chainTotal
      rw [chainWriteFrom_get_of_lt hs1 n _ hij, hself, ih]
      simp only
      linear_combination fit_carry_exact hc
    · rw [h] at hw ⊢
      obtain ⟨hsat, hwrap⟩ := hw _ List.mem_cons_self
      have hin : (fit es[i].attr r).outcome = .inRange := by
        cases ho : (fit es[i].attr r).outcome with
        | inRange => rfl
        | saturated => exact absurd ho hsat
        | wrapped =>
          obtain ⟨c, hc⟩ := Option.isSome_iff_exists.mp ((fit_carry_iff _ r).mpr ho)
          rcases hstop with hn | hn
          · rw [hn] at hc
            cases hc
          · have hl : es[i].attr.link.isSome = true := hwrap ho
            rw [hn] at hl
            cases hl
      have hval := (fit_inRange_exact hin).1
      have hnd := chainFrom_nodup hs (n + 1) i
      rw [chainFrom_succ] at hnd ⊢
      unfold chainTotal
      rw [chainTotal_congr fun k hk => fitEntry_get_ne es r (ne_of_mem_of_not_mem hk (List.nodup_cons.mp hnd).1), hself]
      simp only
      rw [hval]
      ring

/-- Settles O5: 32 steps of fuel reach the end of every chain of a sound store. -/
theorem chainKeepsTotal : Obligations.ChainKeepsTotal :=
  fun _ i r hs hw => chainWriteFrom_total Config.chainFuel hs i r (by unfold Config.chainFuel; omega) hw

end Sys2Proof.Machine
end

section
/-! ### The state after power-on -/

namespace Sys2Proof.Machine

open Sys2Proof.Safety

/-! #### The power-on values -/

theorem reset_entry (i : Fin 32) : State.reset.entries[i] = Entry.powerOn := by
  simp [State.reset]

theorem reset_chan (ch : Fin 8) : State.reset.chans[ch] = Channel.powerOn ch := by
  simp [State.reset]

/-- Settles O17: each field of `State.reset` against the value of the spec. -/
theorem powerOnResetValues : Obligations.PowerOnResetValues :=
  fun _ => ⟨_, rfl, reset_entry, reset_chan, rfl, rfl, rfl, rfl, rfl, rfl, rfl, rfl, rfl, rfl, rfl, rfl, rfl, rfl,
    rfl, rfl, rfl, rfl⟩

/-! #### The invariant -/

theorem powerOn_entrySound (i : Fin 32) : EntrySound i Entry.powerOn := by
  refine ⟨⟨by decide, by decide⟩, ⟨by decide, by decide, ?_⟩, ?_⟩ <;> intro x hx <;> cases hx

theorem reset_unheld (i : Fin 32) : State.reset.entries[i].held = false := by
  rw [reset_entry]
  rfl

theorem reset_not_eligible (ch : Fin 8) : eligible State.reset ch = false := by
  unfold eligible
  rw [reset_chan]
  rfl

/-- R18, R40, R63, R109, R131: the store, the batch unit, the sequencer and the engine after power-on. -/
theorem reset_sound : Sound State.reset where
  store := fun i => by rw [reset_entry]; exact powerOn_entrySound i
  undo := ⟨by decide, List.nodup_nil, fun i => by rw [reset_unheld]; simp [State.reset], by simp [State.reset]⟩
  batch := by decide
  hand := rfl
  flight := rfl
  space := rfl
  queue := ⟨by decide, by simp [State.reset]⟩
  ring := ⟨by decide, by decide⟩
  sides := fun i t ht => by rw [reset_entry] at ht; cases ht

/-- Settles O14. -/
theorem invariantHoldsAtReset : Obligations.InvariantHoldsAtReset where
  sound := reset_sound
  requests := by
    have hany : anyEligible State.reset = false := List.any_eq_false.mpr fun ch _ => by simp [reset_not_eligible]
    exact ⟨hany.symm, rfl, fun _ => ⟨rfl, rfl⟩⟩
  rest := rfl
  events := by decide
  chans := fun ch => by rw [reset_chan]; simp [ChanSound, Channel.powerOn]
  timebase := by decide
  link := by decide
  quiet := fun h => by cases h

end Sys2Proof.Machine
end

section
/-! ### The rows of the instruction table, and what the blocks around the engine keep -/

namespace Sys2Proof.Machine

open Sys2Proof.Safety

/-! #### The rows by their kind -/

/-- R148: the state in which the events of a sample are run. -/
def sampledState (levels : Byte) (s : State) : State :=
  ((drivenAdvance s).withChans (sampleAll levels s.chans).1).withTimebase (dividerStep s.timebase).1

/-- R148: the threads of events that a sample brings besides those of a tick. -/
def sampleThreads (levels : Byte) (s : State) : List (List TimedEvent) :=
  (if drivenDue s then [.frameEnd] else []) :: (sampleAll levels s.chans).2.map fun ch => [TimedEvent.unit ch]

theorem execSample_eq (levels : Byte) (s : State) :
    execSample levels s = .next (if (dividerStep s.timebase).2
      then deliverTick (sampleThreads levels s) (sampledState levels s)
      else runThreads runTimed (sampleThreads levels s) (sampledState levels s)) := rfl

theorem exec_takeRow (op : Opcode) (o : Operands) (s : State) :
    exec (takeRow op o) s = .next (takeStep op o (take op o) s) := by
  cases op <;> rfl

theorem exec_windowWrite {c : Instr} {a : Addr} {v : Byte} (h : windowWrite c = some (a, v)) (s : State) :
    exec c s = .next (hostWrite (writeReg a.toNat v) s) := by
  cases c <;> cases h <;> rfl

theorem exec_windowRead {c : Instr} {a : Addr} (h : windowRead c = some a) (s : State) :
    exec c s = .next (readReg a.toNat s) := by
  cases c <;> cases h <;> rfl

/-- A property of a command and the state it leaves, row by row: the take rows, the window writes and the window reads
are each one case. -/
theorem exec_rows {P : Instr → State → Prop} {s : State}
    (powerOn : P .powerOnReset ((State.reset.withFreeCount s.freeCount).withPending s.pending))
    (reset : P .interfaceReset (if s.rstn then (interfaceReset s).withRstn false else s))
    (rise : P .rstnRise (s.withRstn true))
    (sample : ∀ l t, execSample l s = .next t → P (.sample l) t)
    (unit : ∀ ch t, execUnitArrival ch s = .next t → P (.unitArrival ch) t)
    (tick : P .millisecondTick (deliverTick [] (s.withTimebase (endTick s.timebase))))
    (grant : P .grant (arrive s))
    (post : ∀ t, execPostCompletion s = .next t → P .postCompletion t)
    (arith : ∀ t, execArithmeticCompletion s = .next t → P .arithmeticCompletion t)
    (restore : ∀ t, execRestoreCompletion s = .next t → P .restoreCompletion t)
    (takes : ∀ op o, P (takeRow op o) (takeStep op o (take op o) s))
    (batchTimer : P .batchTimerExpiry (if s.batch.timer.isSome then batchExpiry s else s))
    (interval : P .intervalExpiry (if counting s.interval then intervalEvent (intervalReload s) else s))
    (frame : P .frameCompletion (frameEnd s))
    (timeout : P .linkTimeout (linkTimeout s))
    (write : ∀ c a v, windowWrite c = some (a, v) → P c (hostWrite (writeReg a.toNat v) s))
    (read : ∀ c a, windowRead c = some a → P c (readReg a.toNat s))
    (falling : P .lclkFallingEdge (fallingEdge s))
    (rising : P .lclkRisingEdge (risingEdge s))
    {c : Instr} {t : State} (h : exec c s = .next t) : P c t := by
  have hwrite : ∀ a v, windowWrite c = some (a, v) → P c t := fun a v hw => by
    rw [exec_windowWrite hw] at h
    cases h
    exact write c a v hw
  have hread : ∀ a, windowRead c = some a → P c t := fun a hr => by
    rw [exec_windowRead hr] at h
    cases h
    exact read c a hr
  have htake : ∀ op o, c = takeRow op o → P c t := fun op o hc => by
    subst hc
    rw [exec_takeRow] at h
    cases h
    exact takes op o
  cases c with
  | powerOnReset => cases h; exact powerOn
  | interfaceReset => cases h; exact reset
  | rstnRise => cases h; exact rise
  | sample l => exact sample l t h
  | unitArrival ch => exact unit ch t h
  | millisecondTick => cases h; exact tick
  | grant => cases h; exact grant
  | postCompletion => exact post t h
  | arithmeticCompletion => exact arith t h
  | restoreCompletion => exact restore t h
  | mark o => exact htake .mark o rfl
  | add o => exact htake .add o rfl
  | sub o => exact htake .sub o rfl
  | move o => exact htake .move o rfl
  | negate o => exact htake .negate o rfl
  | clear o => exact htake .clear o rfl
  | compare o => exact htake .compare o rfl
  | setattr o => exact htake .setattr o rfl
  | setthresh o => exact htake .setthresh o rfl
  | chanconfig o => exact htake .chanconfig o rfl
  | chanclear o => exact htake .chanclear o rfl
  | batchOpen o => exact htake .batchOpen o rfl
  | batchCommit o => exact htake .batchCommit o rfl
  | batchAbort o => exact htake .batchAbort o rfl
  | report o => exact htake .report o rfl
  | reportPeriodic o => exact htake .reportPeriodic o rfl
  | batchTimerExpiry => cases h; exact batchTimer
  | intervalExpiry => cases h; exact interval
  | frameCompletion => cases h; exact frame
  | linkTimeout => cases h; exact timeout
  | submit v => exact hwrite _ v rfl
  | comppop v => exact hwrite _ v rfl
  | evtpop v => exact hwrite _ v rfl
  | irqflag v => exact hwrite _ v rfl
  | irqen v => exact hwrite _ v rfl
  | init v => exact hwrite _ v rfl
  | accumulatorCapture => exact hread _ rfl
  | channelCapture => exact hread _ rfl
  | linkstatus => exact hread _ rfl
  | intcount => exact hread _ rfl
  | intervalWrite v => exact hwrite _ v rfl
  | tbctrl v => exact hwrite _ v rfl
  | linkctrl v => exact hwrite _ v rfl
  | registerWrite a v => exact hwrite a v rfl
  | lclkFallingEdge => cases h; exact falling
  | lclkRisingEdge => cases h; exact rising
  | readAccess a => exact hread a rfl

/-- R29: POST_COMPLETION completes the post in flight, or finds none. -/
theorem execPostCompletion_cases {s t : State} (h : execPostCompletion s = .next t) :
    (∃ ch w d g, s.engine.inFlight = some ⟨.post ch w d, g⟩ ∧ t = postDone ⟨.post ch w d, g⟩ s) ∨ t = s := by
  unfold execPostCompletion at h
  split at h <;> cases h
  · exact .inl ⟨_, _, _, _, ‹_›, rfl⟩
  · exact .inr rfl

/-- R21: the operation of an arithmetic command. -/
def OpKind.isArith : OpKind → Bool
  | .post .. => false
  | .restore _ => false
  | _ => true

/-- R98: ARITHMETIC_COMPLETION completes the command in EXECUTING, or finds none. -/
theorem execArithmeticCompletion_cases {s t : State} (h : execArithmeticCompletion s = .next t) :
    (∃ op r, s.engine.inFlight = some op ∧ op.kind.isArith = true ∧ s.seq = .executing r ∧ t = arithDone r op s)
      ∨ t = s := by
  unfold execArithmeticCompletion at h
  split at h
  · cases h; exact .inr rfl
  · cases h; exact .inr rfl
  · rename_i op r hpost hrestore hf hs
    cases h
    refine .inl ⟨op, r, hf, ?_, hs, rfl⟩
    obtain ⟨k, g⟩ := op
    cases k with
    | post ch w d => exact absurd rfl (hpost ch w d g)
    | restore p => exact absurd rfl (hrestore p g)
    | add _ | sub _ | move _ | negate | clear | compare _ => rfl
  · cases h; exact .inr rfl

/-- R118: RESTORE_COMPLETION completes the restore in flight, or finds none. -/
theorem execRestoreCompletion_cases {s t : State} (h : execRestoreCompletion s = .next t) :
    (∃ p g, s.engine.inFlight = some ⟨.restore p, g⟩ ∧ t = restoreDone ⟨.restore p, g⟩ s) ∨ t = s := by
  unfold execRestoreCompletion at h
  split at h <;> cases h
  · exact .inl ⟨_, _, ‹_›, rfl⟩
  · exact .inr rfl

/-! #### Steps 4 and 5 of each take, and the hand-over of the sequencer -/

/-- R83. -/
def setattrBody (o : Operands) (s : State) : State :=
  if attrInvalid o.target s.entries[o.target] o.attr then complete .setattr o .attrInvalid s
  else complete .setattr o .done
    (s.withEntries (setEntry s.entries o.target { s.entries[o.target] with attr := o.attr }))

/-- R84. -/
def setthreshBody (o : Operands) (s : State) : State :=
  match o.threshold with
  | none => complete .setthresh o .done
      (s.withEntries (setEntry s.entries o.target { s.entries[o.target] with threshold := none, side := .below }))
  | some t =>
    if 10 ^ s.entries[o.target].attr.width ≤ t.value.mag then complete .setthresh o .attrInvalid s
    else complete .setthresh o .done
      (s.withEntries (setEntry s.entries o.target
        { s.entries[o.target] with threshold := some t, side := sideOf t (committed s o.target) }))

/-- R85. -/
def chanconfigBody (o : Operands) (s : State) : State :=
  if chanBusy s.chans[chanOf o.a] o.chanRecord then complete .chanconfig o .channelBusy s
  else complete .chanconfig o .done
    (s.withChans (setChan s.chans (chanOf o.a) (applyRecord s.chans[chanOf o.a] o.chanRecord)))

/-- R86. -/
def chanclearBody (o : Operands) (s : State) : State :=
  complete .chanclear o .done
    (refreshPostReq (s.withChans (setChan s.chans (chanOf o.a) (clearChan s.chans[chanOf o.a]))))

/-- R87. -/
def batchOpenBody (o : Operands) (s : State) : State :=
  complete .batchOpen o .done (s.withBatch { s.batch with
    phase := .opened, undo := [], member := false, deferred := false, timer := batchTimerLoad s.batchLimit })

/-- R89. -/
def batchAbortBody (o : Operands) (s : State) : State :=
  match s.batch.undo with
  | [] => complete .batchAbort o .done (endUnwind (enterUnwinding .abort s))
  | _ :: _ => beginUnwind (enterUnwinding .abort (s.withSeq (.unwinding (some (recordOf .batchAbort o)))))

/-- R90. -/
def reportBody (o : Operands) (s : State) : State :=
  if reportFull s then complete .report o .reportFull s
  else complete .report o .done (appendJob ⟨o.tag, false, o.reportList⟩ s)

/-- R91. -/
def reportPeriodicBody (o : Operands) (s : State) : State :=
  complete .reportPeriodic o .done (s.withLink { s.link with
    template := if o.a = 0 then none else some ⟨o.tag, true, o.reportList⟩ })

/-- Section 4.5: steps 4 and 5 of a command that has passed the checks. -/
def takeBody (op : Opcode) (o : Operands) : State → State :=
  match op with
  | .mark => complete .mark o .done
  | .add => arithBody .add o
  | .sub => arithBody .sub o
  | .move => arithBody .move o
  | .negate => arithBody .negate o
  | .clear => arithBody .clear o
  | .compare => arithBody .compare o
  | .setattr => setattrBody o
  | .setthresh => setthreshBody o
  | .chanconfig => chanconfigBody o
  | .chanclear => chanclearBody o
  | .batchOpen => batchOpenBody o
  | .batchCommit => fun s => complete .batchCommit o .done (commitBatch s)
  | .batchAbort => batchAbortBody o
  | .report => reportBody o
  | .reportPeriodic => reportPeriodicBody o

/-- R71–R73: every take is its body behind the three checks. -/
theorem take_eq (op : Opcode) (o : Operands) (s : State) : take op o s = checked op o (takeBody op o) s := by
  cases op <;> rfl

/-- R99: the sequencer passes on unless it holds a command. -/
def handOn (entering : Bool) (s : State) : State := if hasCommand s then s else passOn entering s

theorem handOn_hand (e : Bool) {s : State} (h : hasCommand s = true) : handOn e s = s := by simp [handOn, h]

theorem handOn_empty (e : Bool) {s : State} (h : hasCommand s = false) : handOn e s = passOn e s := by
  simp [handOn, h]

theorem recheck_eq (s : State) : recheck s = handOn false s := rfl

theorem resume_eq (s : State) :
    resume s = handOn true (if s.batch.phase = .unwinding then beginUnwind s else s) := rfl

theorem takeStep_eq (op : Opcode) (o : Operands) (body : State → State) (s : State) :
    takeStep op o body s = if canTake (recordOf op o) s then handOn true (body (beginTake s)) else s := rfl

/-! #### The window's accesses by their kind -/

/-- R178: a write of any address, by the part of the state that it reaches. -/
theorem writeReg_cases {P : State → Prop} {v : Byte} {s : State} (control : P (writeControl v s))
    (window : ∀ w, P (s.withWindow w)) (submit : P (submitWrite s)) (ring : P (popRing s)) (events : P (popEvents s))
    (interval : ∀ x, P (s.withInterval x)) (limit : ∀ x, P (s.withBatchLimit x)) (linkctrl : P (writeLinkctrl v s))
    (timeout : P (s.withLink { s.link with timeoutReg := v })) (none : P s) (a : Nat) : P (writeReg a v s) :=
  iteInduction (fun _ => control) fun _ =>
  iteInduction (fun _ => window _) fun _ =>
  iteInduction (fun _ => window _) fun _ =>
  iteInduction (fun _ => window _) fun _ =>
  iteInduction (fun _ => submit) fun _ =>
  iteInduction (fun _ => ring) fun _ =>
  iteInduction (fun _ => events) fun _ =>
  iteInduction (fun _ => window _) fun _ =>
  iteInduction (fun _ => window _) fun _ =>
  iteInduction (fun _ => interval _) fun _ =>
  iteInduction (fun _ => interval _) fun _ =>
  iteInduction (fun _ => interval _) fun _ =>
  iteInduction (fun _ => limit _) fun _ =>
  iteInduction (fun _ => limit _) fun _ =>
  iteInduction (fun _ => linkctrl) fun _ =>
  iteInduction (fun _ => timeout) fun _ => none

/-- R178: what a read of any address can touch: the byte on the bus, and while RSTn is high the capture buffers, the
interval timer's latch, and the phase and the tag latch of LINKSTATUS. -/
theorem readReg_cases {P : State → Prop} {s : State} (low : P (s.withBusOut 0))
    (high : s.rstn = true → ∀ p g w x b, P ((((s.withLink { s.link with lsPhase := p, tagLatch := g }).withWindow
      w).withInterval x).withBusOut b)) (a : Nat) : P (readReg a s) := by
  have hread : ∀ (act : State → State) (w : Window) (x : IntervalTimer),
      act (phaseToState s) = ((phaseToState s).withWindow w).withInterval x → P (hostRead a act s) := by
    intro act w x hact
    unfold hostRead
    rw [hact]
    exact iteInduction (fun h => high h .state s.link.tagLatch w x _) fun _ => low
  have hstatus : P (readLinkstatus s) := by
    unfold readLinkstatus
    refine iteInduction (fun h => ?_) fun _ => low
    split
    · exact high h .tag (headTag s.link) s.window s.interval (linkStatusByte s.link)
    · exact high h .state s.link.tagLatch s.window s.interval s.link.tagLatch
  have hacc := hread captureAcc (captureAcc (phaseToState s)).window s.interval rfl
  have hchan := hread captureChan (captureChan (phaseToState s)).window s.interval rfl
  have hcount := hread latchCount s.window (latchCount (phaseToState s)).interval rfl
  exact iteInduction (fun _ => hacc) fun _ => iteInduction (fun _ => hchan) fun _ =>
    iteInduction (fun _ => hcount) fun _ => iteInduction (fun _ => hstatus) fun _ => hread id s.window s.interval rfl

/-! #### The host-facing state at a reset (R191) -/

section

variable (s : State)

@[simp] theorem resetHostState_entries : (resetHostState s).entries = s.entries := by simp [resetHostState]
@[simp] theorem resetHostState_chans : (resetHostState s).chans = s.chans := by simp [resetHostState]
@[simp] theorem resetHostState_schedPtr : (resetHostState s).schedPtr = s.schedPtr := by simp [resetHostState]
@[simp] theorem resetHostState_engine : (resetHostState s).engine = s.engine := by simp [resetHostState]
@[simp] theorem resetHostState_seq : (resetHostState s).seq = s.seq := by simp [resetHostState]
@[simp] theorem resetHostState_batch : (resetHostState s).batch = s.batch := by simp [resetHostState]
@[simp] theorem resetHostState_timebase : (resetHostState s).timebase = s.timebase := by simp [resetHostState]
@[simp] theorem resetHostState_rstn : (resetHostState s).rstn = s.rstn := by simp [resetHostState]
@[simp] theorem resetHostState_busOut : (resetHostState s).busOut = s.busOut := by simp [resetHostState]
@[simp] theorem resetHostState_freeCount : (resetHostState s).freeCount = s.freeCount := by simp [resetHostState]
@[simp] theorem resetHostState_pending : (resetHostState s).pending = s.pending := by simp [resetHostState]
@[simp] theorem resetHostState_cmdQueue : (resetHostState s).cmdQueue = [] := by simp [resetHostState]
@[simp] theorem resetHostState_ring : (resetHostState s).ring = [] := by simp [resetHostState]
@[simp] theorem resetHostState_flags : (resetHostState s).flags = FlagWord.cleared := by simp [resetHostState]
@[simp] theorem resetHostState_events : (resetHostState s).events = EventQueue.empty := by simp [resetHostState]
@[simp] theorem resetHostState_interval : (resetHostState s).interval = IntervalTimer.cleared := by simp [resetHostState]
@[simp] theorem resetHostState_batchLimit : (resetHostState s).batchLimit = ⟨0, 0⟩ := by simp [resetHostState]
@[simp] theorem resetHostState_link : (resetHostState s).link = Link.cleared := by simp [resetHostState]
@[simp] theorem resetHostState_window : (resetHostState s).window = Window.cleared := by simp [resetHostState]

end

end Sys2Proof.Machine
end

section
/-! ### The event queue, the channels, the link and the divider -/

namespace Sys2Proof.Machine

open Sys2Proof.Safety

/-! #### The event queue (R140–R147) -/

/-- R147: the first number of a queue's records, or the next number of an empty queue. -/
def firstSeq (records : List EventRec) (next : Byte) : Byte := (records.head?.map fun r => r.seqNo).getD next

theorem consecutive_cons {n next : Byte} {r : EventRec} {rs : List EventRec} :
    consecutive n (r :: rs) next = true ↔ r.seqNo = n ∧ consecutive (n + 1) rs next = true := by
  simp [consecutive]

/-- R147: consecutive records begin with the number they are counted from. -/
theorem firstSeq_of_consecutive {n next : Byte} {rs : List EventRec} (h : consecutive n rs next = true) :
    firstSeq rs next = n := by
  cases rs with
  | nil => exact (beq_iff_eq.mp h).symm
  | cons r rs => exact (consecutive_cons.mp h).1

/-- R142, R147: a record with the next number extends consecutive records. -/
theorem consecutive_append (b : EventBody) {next : Byte} : ∀ {rs : List EventRec} {n : Byte},
    consecutive n rs next = true → consecutive n (rs ++ [⟨next, b⟩]) (next + 1) = true
  | [], n, h => by
    have hn : n = next := by simpa [consecutive] using h
    simp [consecutive, hn]
  | r :: rs, n, h => by
    obtain ⟨hr, hrs⟩ := consecutive_cons.mp h
    exact consecutive_cons.mpr ⟨hr, consecutive_append b hrs⟩

theorem firstSeq_append (b : EventBody) (rs : List EventRec) (next next' : Byte) :
    firstSeq (rs ++ [⟨next, b⟩]) next' = firstSeq rs next := by
  cases rs <;> rfl

/-- R142: an append keeps the event queue sound, whether it places the record or counts its loss. -/
theorem appendEvent_sound (b : EventBody) {s : State} (h : EventSound s.events) :
    EventSound (appendEvent b s).events := by
  obtain ⟨hlen, hlost, hfull, hseq⟩ := h
  rcases appendEvent_cases b s with ⟨hroom, he⟩ | ⟨hno, he⟩ <;> rw [he]
  · have h0 : s.events.lost = 0 := by by_contra hne; have := hfull hne; omega
    refine ⟨by simpa [placeEvent] using hroom, by simpa [placeEvent] using hlost, fun hne => absurd h0 hne, ?_⟩
    have hc := consecutive_append b hseq
    have hf := firstSeq_append b s.events.records s.events.nextSeq (s.events.nextSeq + 1)
    unfold firstSeq at hf
    rw [← hf] at hc
    exact hc
  · exact ⟨hlen, by simp, fun _ => by simp only [State.withEvents_events]; omega, hseq⟩

/-- R143: a pop keeps the event queue sound; the LOST record takes the freed place. -/
theorem popEvents_sound {s : State} (h : EventSound s.events) : EventSound (popEvents s).events := by
  unfold popEvents
  split
  · exact h
  · rename_i r rest hr
    obtain ⟨hlen, hlost, hfull, hseq⟩ := h
    rw [hr] at hlen hfull hseq
    have hrest := (consecutive_cons.mp hseq).2
    have hfirst := firstSeq_of_consecutive hrest
    unfold firstSeq at hfirst
    rw [← hfirst] at hrest
    simp only [List.length_cons] at hlen hfull
    dsimp only
    split
    · exact ⟨by simp only [State.withEvents_events]; omega, hlost, fun hne => absurd ‹_› hne, hrest⟩
    · have hc := consecutive_append ⟨.lost, 0, byteOf s.events.lost⟩ hrest
      have hf := firstSeq_append ⟨.lost, 0, byteOf s.events.lost⟩ rest s.events.nextSeq (s.events.nextSeq + 1)
      unfold firstSeq at hf
      rw [← hf] at hc
      exact ⟨by simp [placeEvent]; omega, by simp [placeEvent], fun hne => absurd rfl hne, hc⟩

/-! #### The channels (R43–R54) -/

theorem chansSound_set {s : State} (h : ChansSound s) (ch : Fin 8) {c : Channel} (hc : ChanSound c) :
    ∀ k : Fin 8, ChanSound (setChan s.chans ch c)[k] := by
  intro k
  by_cases hk : k = ch
  · subst hk; rw [setChan_get_self]; exact hc
  · rw [setChan_get_ne _ _ hk]; exact h k

theorem chanSound_countUnit {c : Channel} (h : ChanSound c) : ChanSound (countUnit c) := by
  obtain ⟨h1, h2, h3, h4, h5, h6, h7, -, h9, hrest⟩ := h
  unfold countUnit
  split
  · exact ⟨h1, h2, h3, h4, h5, Nat.succ_le_of_lt ‹_›, h7, min_le_left _ _, h9, hrest⟩
  · exact ⟨h1, h2, h3, h4, h5, h6, min_le_left _ _, min_le_left _ _, h9, hrest⟩

theorem chanSound_takeUnit {c : Channel} (h : ChanSound c) : ChanSound { c with units := c.units - 1 } := by
  obtain ⟨h1, h2, h3, h4, h5, h6, hrest⟩ := h
  exact ⟨h1, h2, h3, h4, h5, by simp only; omega, hrest⟩

theorem chanSound_reload {c : Channel} (h : ChanSound c) : ChanSound { c with divCount := c.record.divider } := by
  obtain ⟨h1, h2, h3, -, -, hrest⟩ := h
  exact ⟨h1, h2, h3, h2, le_refl _, hrest⟩

theorem chanSound_latchRate {c : Channel} (h : ChanSound c) : ChanSound (latchRate c) := by
  obtain ⟨h1, h2, h3, h4, h5, h6, h7, h8, -, hrest⟩ := h
  exact ⟨h1, h2, h3, h4, h5, h6, h7, Nat.zero_le _, h8, hrest⟩

theorem chanSound_clearChan {c : Channel} (h : ChanSound c) : ChanSound (clearChan c) := by
  obtain ⟨h1, h2, h3, -, -, -, -, -, -, hrest⟩ := h
  exact ⟨h1, h2, h3, h2, le_refl _, Nat.zero_le _, Nat.zero_le _, Nat.zero_le _, Nat.zero_le _, hrest⟩

theorem chanRecord_ranges (o : Operands) :
    o.chanRecord.qualify ≤ 15 ∧ 1 ≤ o.chanRecord.divider ∧ o.chanRecord.divider ≤ 256 := by
  simp only [Operands.chanRecord, loNibble]
  omega

/-- R53, R85: an applied record re-arms or disables the input, so the qualifier's bound is not in question. -/
theorem chanSound_applyRecord (o : Operands) {c : Channel} (h : ChanSound c) :
    ChanSound (applyRecord c o.chanRecord) := by
  obtain ⟨hq, hd1, hd2⟩ := chanRecord_ranges o
  obtain ⟨-, -, -, h4, h5, h6, h7, h8, h9, h10, -⟩ := h
  unfold applyRecord
  split
  · exact ⟨hq, hd1, hd2, hd1, le_refl _, h6, h7, h8, h9, h10, fun hi => by cases hi⟩
  · exact ⟨hq, hd1, hd2, le_min h4 hd1, min_le_right _ _, h6, h7, h8, h9, h10, fun hi => by cases hi⟩

/-- R48: a counted edge lowers the divider count or reloads it. -/
theorem chanSound_countEdge {c : Channel} (h : ChanSound c) : ChanSound (countEdge c).1 := by
  unfold countEdge
  split
  · exact chanSound_reload h
  · obtain ⟨h1, h2, h3, h4, h5, hrest⟩ := h
    exact ⟨h1, h2, h3, by simp only; omega, by simp only; omega, hrest⟩

/-- R45, R46: a sample keeps a channel sound. -/
theorem chanSound_sampleChan (raw : Bool) {c : Channel} (h : ChanSound c) : ChanSound (sampleChan raw c).1 := by
  obtain ⟨h1, h2, h3, h4, h5, h6, h7, h8, h9, h10, h11⟩ := h
  have hzero : ∀ l : Bool, ChanSound { c with level := l, qcount := 0 } := fun _ =>
    ⟨h1, h2, h3, h4, h5, h6, h7, h8, h9, Nat.zero_le _, fun _ => Nat.zero_le _⟩
  unfold sampleChan
  split
  · exact ⟨h1, h2, h3, h4, h5, h6, h7, h8, h9, h10, h11⟩
  · exact ⟨h1, h2, h3, h4, h5, h6, h7, h8, h9, Nat.zero_le _, fun _ => Nat.zero_le _⟩
  · split
    · exact hzero c.level
    · split
      · exact ⟨h1, h2, h3, h4, h5, h6, h7, h8, h9, by simp only; omega, fun _ => by simp only; omega⟩
      · dsimp only
        split
        · exact chanSound_countEdge (hzero raw)
        · exact hzero raw

theorem sampleAll_get (levels : Byte) (cs : Vector Channel 8) (ch : Fin 8) :
    (sampleAll levels cs).1[ch] = (sampleChan (levels.getLsbD ch.val) cs[ch]).1 := by
  simp [sampleAll]

/-! #### The divider (R149) -/

theorem timebaseSound_endTick {t : Timebase} (h : TimebaseSound t) : TimebaseSound (endTick t) := by
  obtain ⟨htick, -, -⟩ := h
  unfold endTick
  split
  · refine ⟨by simp only; omega, le_refl _, ?_⟩
    simp only [tickEnd]
    omega
  · exact ⟨Nat.zero_le _, Nat.zero_le _, by decide⟩

theorem timebaseSound_dividerStep {t : Timebase} (h : TimebaseSound t) : TimebaseSound (dividerStep t).1 := by
  unfold dividerStep
  split
  · exact timebaseSound_endTick h
  · obtain ⟨htick, hlow, hhigh⟩ := h
    exact ⟨htick, by simp only; omega, by simp only; omega⟩

/-! #### The report link (R161–R174) -/

/-- R161, R164: the link between the end of a frame and the start of the next: IDLE may meet a waiting job. -/
def LinkOpen (l : Link) : Prop :=
  l.jobs.length ≤ 8 ∧ (l.state.frame.isSome = true → l.jobs ≠ []) ∧ (l.state = .off ↔ ctrlEnable l.ctrl = false)

/-- R165: a start leaves no job waiting at an IDLE link. -/
theorem tryStart_sound (n : Nat) {s : State} (h : LinkOpen s.link) : LinkSound (tryStart n s).link := by
  obtain ⟨hlen, hframe, hoff⟩ := h
  rcases tryStart_cases n s with ⟨j, js, hidle, hjobs, he⟩ | ⟨hno, he⟩ <;> rw [he]
  · have hne : s.link.jobs ≠ [] := by rw [hjobs]; exact List.cons_ne_nil j js
    have hon : ctrlEnable s.link.ctrl ≠ false := fun hf => by rw [hidle] at hoff; cases hoff.mpr hf
    simp only [State.withLink_link]
    cases (newFrame s j n).followed <;>
      exact ⟨hlen, fun _ => hne, ⟨fun hs => (by cases hs), fun hf => absurd hf hon⟩, fun hs => (by cases hs)⟩
  · exact ⟨hlen, hframe, hoff, fun hs => hno.resolve_left fun hn => hn hs⟩

/-- R161: a job is appended while the queue has room. -/
theorem appendJob_sound (j : Job) {s : State} (h : LinkSound s.link) (hroom : reportFull s = false) :
    LinkSound (appendJob j s).link := by
  obtain ⟨-, -, hoff, -⟩ := h
  have hlen : s.link.jobs.length < 8 := Nat.lt_of_not_le (of_decide_eq_false hroom)
  exact tryStart_sound 1 ⟨by simp; omega, fun _ => by simp, hoff⟩

theorem dropHead_link (k : EventKind) (d : Job → Byte) (l : LinkState) (s : State) :
    (dropHead k d l s).link = { s.link with jobs := s.link.jobs.tail, state := l } := by
  obtain ⟨q, f, h⟩ := dropHead_eq k d l s
  rw [h]
  rfl

/-- R171, R173: a frame under way ends and the link is IDLE, with the next job not yet started. -/
theorem dropHead_open (k : EventKind) (d : Job → Byte) {s : State} (h : LinkSound s.link)
    (hf : s.link.state.frame.isSome = true) : LinkOpen (dropHead k d .idle s).link := by
  obtain ⟨hlen, -, hoff, -⟩ := h
  have hon : ctrlEnable s.link.ctrl ≠ false := fun hc => by rw [hoff.mpr hc] at hf; cases hf
  rw [dropHead_link]
  exact ⟨by simp; omega, fun hs => (by cases hs), ⟨fun hs => (by cases hs), fun hc => absurd hc hon⟩⟩

theorem completeFrame_sound (f : Frame) {s : State} (h : LinkSound s.link)
    (hf : s.link.state.frame.isSome = true) : LinkSound (completeFrame f s).link :=
  tryStart_sound _ (dropHead_open _ _ h hf)

theorem timeoutFrame_sound {s : State} (h : LinkSound s.link) (hf : s.link.state.frame.isSome = true) :
    LinkSound (timeoutFrame s).link :=
  tryStart_sound _ (dropHead_open _ _ h hf)

/-- A frame under way replaced by another keeps the link sound. -/
theorem linkSound_reframe {l : Link} (h : LinkSound l) (hf : l.state.frame.isSome = true) {x : LinkState}
    (hx : x.frame.isSome = true) : LinkSound { l with state := x } := by
  obtain ⟨hlen, hframe, hoff, -⟩ := h
  have hon : ctrlEnable l.ctrl ≠ false := fun hc => by rw [hoff.mpr hc] at hf; cases hf
  refine ⟨hlen, fun _ => hframe hf, ⟨fun hs => ?_, fun hc => absurd hc hon⟩, fun hs => ?_⟩ <;>
    · simp only at hs
      rw [hs] at hx
      cases hx

theorem setFrame_sound (f : Frame) {s : State} (h : LinkSound s.link) : LinkSound (setFrame f s).link := by
  unfold setFrame
  split
  · rename_i hs
    exact linkSound_reframe h (by rw [hs]; rfl) rfl
  · rename_i hs
    exact linkSound_reframe h (by rw [hs]; rfl) rfl
  · exact h

/-- The link fields that soundness does not read. -/
theorem linkSound_of_eq {l l' : Link} (h : LinkSound l) (hj : l'.jobs = l.jobs) (hs : l'.state = l.state)
    (hc : ctrlEnable l'.ctrl = ctrlEnable l.ctrl) : LinkSound l' := by
  unfold LinkSound at *
  rw [hj, hs, hc]
  exact h

end Sys2Proof.Machine
end

section
/-! ### What an operation leaves sound and undisturbed -/

namespace Sys2Proof.Machine

open Sys2Proof.Safety

set_option Elab.async false

/-- The event queue, the channels, the link and the divider stay sound, and RSTn keeps its level. -/
structure BlocksKept (s t : State) : Prop where
  events : EventSound s.events → EventSound t.events
  chans : ChansSound s → ChansSound t
  link : LinkSound s.link → LinkSound t.link
  timebase : TimebaseSound s.timebase → TimebaseSound t.timebase
  rstn : t.rstn = s.rstn

/-- Besides, no value changes and an operation in flight stays in flight (R16, R26, R41). -/
structure Undisturbed (s t : State) : Prop extends BlocksKept s t where
  flight : ∀ x : Operation, s.engine.inFlight = some x → t.engine.inFlight = some x
  values : ∀ i : Fin 32, t.entries[i].value = s.entries[i].value

namespace BlocksKept

theorem trans {s t u : State} (h : BlocksKept s t) (h' : BlocksKept t u) : BlocksKept s u :=
  ⟨h'.events ∘ h.events, h'.chans ∘ h.chans, h'.link ∘ h.link, h'.timebase ∘ h.timebase, h'.rstn.trans h.rstn⟩

/-- What none of the four blocks sees. -/
theorem of_eq {s t : State} (events : t.events = s.events := by rfl) (chans : t.chans = s.chans := by rfl)
    (link : t.link = s.link := by rfl) (timebase : t.timebase = s.timebase := by rfl)
    (rstn : t.rstn = s.rstn := by rfl) : BlocksKept s t := by
  refine ⟨?_, ?_, ?_, ?_, rstn⟩
  · rw [events]; exact id
  · unfold ChansSound; rw [chans]; exact id
  · rw [link]; exact id
  · rw [timebase]; exact id

end BlocksKept

/-- What reaches at most the event queue and the link. -/
theorem BlocksKept.of_events_link {s t : State} (events : EventSound s.events → EventSound t.events)
    (link : LinkSound s.link → LinkSound t.link) (chans : t.chans = s.chans := by rfl)
    (timebase : t.timebase = s.timebase := by rfl) (rstn : t.rstn = s.rstn := by rfl) : BlocksKept s t := by
  refine ⟨events, ?_, link, ?_, rstn⟩
  · unfold ChansSound; rw [chans]; exact id
  · rw [timebase]; exact id

namespace Undisturbed

theorem refl (s : State) : Undisturbed s s :=
  ⟨.of_eq, fun _ h => h, fun _ => rfl⟩

theorem trans {s t u : State} (h : Undisturbed s t) (h' : Undisturbed t u) : Undisturbed s u :=
  ⟨h.toBlocksKept.trans h'.toBlocksKept, fun x hx => h'.flight x (h.flight x hx),
    fun i => (h'.values i).trans (h.values i)⟩

theorem of_blocks {s t : State} (h : BlocksKept s t) (entries : t.entries = s.entries := by rfl)
    (flight : t.engine.inFlight = s.engine.inFlight := by rfl) : Undisturbed s t :=
  ⟨h, fun _ hx => flight.trans hx, fun i => by rw [entries]⟩

theorem of_eq {s t : State} (events : t.events = s.events := by rfl) (chans : t.chans = s.chans := by rfl)
    (link : t.link = s.link := by rfl) (timebase : t.timebase = s.timebase := by rfl)
    (rstn : t.rstn = s.rstn := by rfl) (entries : t.entries = s.entries := by rfl)
    (flight : t.engine.inFlight = s.engine.inFlight := by rfl) : Undisturbed s t :=
  of_blocks (.of_eq events chans link timebase rstn) entries flight

/-- A store with the same values. -/
theorem of_values {s : State} {es : Vector Entry 32} (h : ∀ i : Fin 32, es[i].value = s.entries[i].value) :
    Undisturbed s (s.withEntries es) :=
  ⟨.of_eq, fun _ hx => hx, h⟩

/-- Channels that are each sound if they were before. -/
theorem of_chans {s : State} {cs : Vector Channel 8} (h : ChansSound s → ∀ ch : Fin 8, ChanSound cs[ch]) :
    Undisturbed s (s.withChans cs) :=
  of_blocks ⟨id, h, id, id, rfl⟩

theorem of_link {s : State} {l : Link} (h : LinkSound s.link → LinkSound l) : Undisturbed s (s.withLink l) :=
  of_blocks (.of_events_link id h)

end Undisturbed

/-! #### Events -/

theorem appendEvent_undisturbed (b : EventBody) (s : State) : Undisturbed s (appendEvent b s) := by
  have hs := appendEvent_sound b (s := s)
  obtain ⟨q, f, h⟩ := appendEvent_eq b s
  rw [h] at hs ⊢
  exact .of_blocks (.of_events_link hs id)

theorem runThreads_undisturbed {α : Type} {run : α → State → State} (hrun : ∀ a s, Undisturbed s (run a s))
    (threads : List (List α)) (s : State) : Undisturbed s (runThreads run threads s) :=
  runThreads_keeps run (Undisturbed s) (fun a _ h => h.trans (hrun a _))
    (fun _ _ h => h.trans .of_eq) threads s (.refl s)

theorem appendThreads_undisturbed (threads : List (List EventBody)) (s : State) :
    Undisturbed s (appendThreads threads s) :=
  runThreads_undisturbed appendEvent_undisturbed threads s

/-! #### The engine -/

theorem startPost_blocksKept (ch : Fin 8) (s : State) : BlocksKept s (startPost ch s) :=
  ⟨id, fun h => chansSound_set h ch (chanSound_takeUnit (h ch)), id, id, rfl⟩

theorem grantCommand_blocksKept (s : State) : BlocksKept s (grantCommand s) := by
  rw [grantCommand_eq]
  exact .of_eq

theorem grantPost_blocksKept (s : State) : BlocksKept s (grantPost s) := by
  unfold grantPost
  split
  · exact startPost_blocksKept _ s
  · dsimp only
    split
    · exact .trans .of_eq (grantCommand_blocksKept _)
    · exact .of_eq

theorem arbitrate_blocksKept (s : State) : BlocksKept s (arbitrate s) := by
  unfold arbitrate
  split
  · exact .of_eq
  · exact grantPost_blocksKept s
  · exact grantCommand_blocksKept s
  · split
    · exact grantCommand_blocksKept s
    · exact grantPost_blocksKept s

theorem arbitrate_entries (s : State) : (arbitrate s).entries = s.entries := by rw [arbitrate_eq]

theorem arrive_undisturbed (s : State) : Undisturbed s (arrive s) := by
  refine ⟨?_, arrive_flight s, fun i => by rw [arrive_eq]⟩
  cases h : engineFree s with
  | true => rw [arrive_free s h]; exact arbitrate_blocksKept s
  | false => rw [arrive_busy s h]; exact .of_eq

theorem schedule_undisturbed (s : State) : Undisturbed s (schedule s) :=
  .trans .of_eq (arrive_undisturbed (refreshPostReq s))

theorem unitArrives_undisturbed (ch : Fin 8) (s : State) : Undisturbed s (unitArrives ch s) := by
  have hcount : Undisturbed s (s.withChans (setChan s.chans ch (countUnit s.chans[ch]))) :=
    .of_chans fun h => chansSound_set h ch (chanSound_countUnit (h ch))
  unfold unitArrives
  dsimp only
  split
  · exact (hcount.trans (appendEvent_undisturbed _ _)).trans (schedule_undisturbed _)
  · exact hcount.trans (schedule_undisturbed _)

/-! #### The batch unit -/

theorem beginUnwind_undisturbed (s : State) : Undisturbed s (beginUnwind s) := by
  rcases beginUnwind_cases s with ⟨-, h⟩ | ⟨-, h⟩ <;> rw [h]
  · exact .of_eq
  · exact .trans .of_eq (arrive_undisturbed _)

theorem openVoid_undisturbed (d : Byte) (s : State) : Undisturbed s (openVoid d s) :=
  (appendEvent_undisturbed _ s).trans .of_eq

theorem evaluateAll_value (es : Vector Entry 32) (is : List (Fin 32)) (i : Fin 32) :
    (evaluateAll es is).1[i].value = es[i].value := by
  rw [evaluateAll_entry]

theorem clearHeld_get (es : Vector Entry 32) (i : Fin 32) : (clearHeld es)[i] = { es[i] with held := false } := by
  simp [clearHeld]

/-! #### The report link -/

theorem appendJob_undisturbed (j : Job) (s : State) (h : reportFull s = false) : Undisturbed s (appendJob j s) := by
  have hs : LinkSound s.link → LinkSound (appendJob j s).link := fun hl => appendJob_sound j hl h
  rw [appendJob_eq] at hs ⊢
  exact .of_link hs

theorem dropHead_blocks (k : EventKind) (d : Job → Byte) (l : LinkState) (s : State) :
    (EventSound s.events → EventSound (dropHead k d l s).events) ∧ (dropHead k d l s).chans = s.chans
      ∧ (dropHead k d l s).timebase = s.timebase ∧ (dropHead k d l s).rstn = s.rstn
      ∧ (dropHead k d l s).engine = s.engine ∧ (dropHead k d l s).entries = s.entries := by
  have hs : EventSound s.events → EventSound (dropHead k d l s).events := by
    unfold dropHead
    split
    · exact fun h => appendEvent_sound _ (by exact h)
    · exact id
  obtain ⟨q, f, h⟩ := dropHead_eq k d l s
  rw [h] at hs ⊢
  exact ⟨hs, rfl, rfl, rfl, rfl, rfl⟩

/-- The end of a frame, with the link sound behind it. -/
theorem dropHead_undisturbed {k : EventKind} {d : Job → Byte} {l : LinkState} {s : State} {x : Link} (l0 : Link)
    (h : LinkSound s.link → LinkSound x) : Undisturbed s ((dropHead k d l (s.withLink l0)).withLink x) := by
  obtain ⟨hev, hchans, htime, hrstn, heng, hent⟩ := dropHead_blocks k d l (s.withLink l0)
  exact .of_blocks (.of_events_link hev h hchans htime hrstn) hent (congrArg Engine.inFlight heng)

theorem completeFrame_undisturbed (f : Frame) {s : State} (hf : s.link.state.frame.isSome = true) :
    Undisturbed s (completeFrame f s) := by
  have hs : LinkSound s.link → LinkSound (completeFrame f s).link := fun h => completeFrame_sound f h hf
  unfold completeFrame at hs ⊢
  rw [tryStart_eq] at hs ⊢
  exact dropHead_undisturbed s.link hs

theorem timeoutFrame_undisturbed {s : State} (hf : s.link.state.frame.isSome = true) :
    Undisturbed s (timeoutFrame s) := by
  have hs : LinkSound s.link → LinkSound (timeoutFrame s).link := fun h => timeoutFrame_sound h hf
  unfold timeoutFrame at hs ⊢
  rw [tryStart_eq] at hs ⊢
  exact dropHead_undisturbed s.link hs

theorem setFrame_undisturbed (f : Frame) (s : State) : Undisturbed s (setFrame f s) := by
  have hs : LinkSound s.link → LinkSound (setFrame f s).link := setFrame_sound f
  rw [setFrame_eq] at hs ⊢
  exact .of_link hs

theorem frameEnd_undisturbed (s : State) : Undisturbed s (frameEnd s) := by
  unfold frameEnd
  split
  · exact completeFrame_undisturbed _ (by simp [*, LinkState.frame])
  · exact .refl s

theorem linkTimeout_undisturbed (s : State) : Undisturbed s (linkTimeout s) := by
  unfold linkTimeout
  split
  · rename_i n h
    obtain ⟨f, hf, -⟩ := Option.bind_eq_some_iff.mp h
    exact timeoutFrame_undisturbed (by rw [hf]; rfl)
  · exact .refl s

theorem fallingEdge_undisturbed (s : State) : Undisturbed s (fallingEdge s) := by
  unfold fallingEdge
  split
  · split
    · exact .of_link fun h => linkSound_reframe h (by simp [*, LinkState.frame]) rfl
    · exact .refl s
  · split
    · exact .of_link fun h => linkSound_reframe h (by simp [*, LinkState.frame]) rfl
    · exact .refl s
  · exact .refl s

theorem risingEdge_undisturbed (s : State) : Undisturbed s (risingEdge s) := by
  unfold risingEdge
  split
  · split
    · exact .of_link fun h => linkSound_reframe h (by simp [*, LinkState.frame]) rfl
    · exact .refl s
  · split
    · split
      · exact completeFrame_undisturbed _ (by simp [*, LinkState.frame])
      · exact .of_link fun h => linkSound_reframe h (by simp [*, LinkState.frame]) rfl
    · exact .refl s
  · exact .refl s

/-! #### The takes -/

theorem complete_undisturbed (op : Opcode) (o : Operands) (st : Status) (s : State) :
    Undisturbed s (complete op o st s) := .of_eq

theorem checked_undisturbed (op : Opcode) (o : Operands) {body : State → State} (s : State)
    (hbody : Undisturbed s (body s)) : Undisturbed s (checked op o body s) := by
  rcases checked_cases op o body s with ⟨-, -, h⟩ | ⟨-, -, h⟩ | ⟨-, -, h⟩ | ⟨st, -, -, -, h⟩ | ⟨-, -, -, h⟩ <;> rw [h]
  · exact .of_eq
  · exact .of_eq
  · exact .of_eq
  · exact .of_eq
  · exact hbody

theorem requestEngine_undisturbed (op : Opcode) (o : Operands) (s : State) :
    Undisturbed s (requestEngine op o s) := .trans .of_eq (arrive_undisturbed _)

theorem refuseUndoFull_undisturbed (op : Opcode) (o : Operands) (s : State) :
    Undisturbed s (refuseUndoFull op o s) :=
  ((complete_undisturbed op o .undoFull s).trans (openVoid_undisturbed 1 _)).trans (beginUnwind_undisturbed _)

theorem arithBody_undisturbed (op : Opcode) (o : Operands) (s : State) : Undisturbed s (arithBody op o s) := by
  unfold arithBody
  split
  · split
    · exact refuseUndoFull_undisturbed op o s
    · exact .trans .of_eq (requestEngine_undisturbed op o _)
  · exact requestEngine_undisturbed op o s

theorem setEntry_value {es : Vector Entry 32} {i : Fin 32} {e : Entry} (h : e.value = es[i].value) (j : Fin 32) :
    (setEntry es i e)[j].value = es[j].value := by
  by_cases hj : j = i
  · subst hj; rw [setEntry_get_self, h]
  · rw [setEntry_get_ne _ _ hj]

/-- R116: the batch closed, before the released channels are offered to the engine. -/
def closeBatch (s : State) : State :=
  let r := evaluateAll s.entries (s.batch.undo.reverse.map fun u => u.index)
  let s1 := appendThreads [r.2] (s.withEntries r.1)
  (s1.withEntries (clearHeld s1.entries)).withBatch { s1.batch with phase := .none, undo := [], timer := none }

theorem commitBatch_eq (s : State) : commitBatch s = schedule (closeBatch s) := rfl

theorem closeBatch_undisturbed (s : State) : Undisturbed s (closeBatch s) := by
  have hstore := evaluateAll_value s.entries (s.batch.undo.reverse.map fun u => u.index)
  unfold closeBatch
  generalize evaluateAll s.entries (s.batch.undo.reverse.map fun u => u.index) = r at hstore
  have hev := (Undisturbed.of_values hstore).trans (appendThreads_undisturbed [r.2] _)
  refine hev.trans ⟨.of_eq, fun _ hx => hx, fun i => ?_⟩
  rw [State.withBatch_entries, State.withEntries_entries, clearHeld_get]

theorem setattrBody_undisturbed (o : Operands) (s : State) : Undisturbed s (setattrBody o s) := by
  unfold setattrBody
  split
  · exact complete_undisturbed _ _ _ _
  · refine Undisturbed.trans (Undisturbed.of_values ?_) (complete_undisturbed _ _ _ _)
    exact setEntry_value rfl

theorem setthreshBody_undisturbed (o : Operands) (s : State) : Undisturbed s (setthreshBody o s) := by
  unfold setthreshBody
  split
  · refine Undisturbed.trans (Undisturbed.of_values ?_) (complete_undisturbed _ _ _ _)
    exact setEntry_value rfl
  · split
    · exact complete_undisturbed _ _ _ _
    · refine Undisturbed.trans (Undisturbed.of_values ?_) (complete_undisturbed _ _ _ _)
      exact setEntry_value rfl

theorem chanconfigBody_undisturbed (o : Operands) (s : State) : Undisturbed s (chanconfigBody o s) := by
  unfold chanconfigBody
  split
  · exact complete_undisturbed _ _ _ _
  · exact (Undisturbed.of_chans fun h => chansSound_set h _ (chanSound_applyRecord o (h _))).trans
      (complete_undisturbed _ _ _ _)

theorem chanclearBody_undisturbed (o : Operands) (s : State) : Undisturbed s (chanclearBody o s) :=
  (Undisturbed.of_chans fun h => chansSound_set h (chanOf o.a) (chanSound_clearChan (h _))).trans .of_eq

theorem batchAbortBody_undisturbed (o : Operands) (s : State) : Undisturbed s (batchAbortBody o s) := by
  unfold batchAbortBody
  split
  · exact .of_eq
  · exact .trans .of_eq (beginUnwind_undisturbed _)

theorem reportBody_undisturbed (o : Operands) (s : State) : Undisturbed s (reportBody o s) := by
  unfold reportBody
  split
  · exact complete_undisturbed _ _ _ _
  · exact (appendJob_undisturbed _ s (Bool.eq_false_iff.mpr ‹_›)).trans (complete_undisturbed _ _ _ _)

theorem reportPeriodicBody_undisturbed (o : Operands) (s : State) : Undisturbed s (reportPeriodicBody o s) :=
  .of_blocks (.of_events_link id fun h => linkSound_of_eq h rfl rfl rfl)

theorem takeBody_undisturbed (op : Opcode) (o : Operands) (s : State) : Undisturbed s (takeBody op o s) := by
  cases op with
  | mark => exact complete_undisturbed _ o _ s
  | add | sub | move | negate | clear | compare => exact arithBody_undisturbed _ o s
  | setattr => exact setattrBody_undisturbed o s
  | setthresh => exact setthreshBody_undisturbed o s
  | chanconfig => exact chanconfigBody_undisturbed o s
  | chanclear => exact chanclearBody_undisturbed o s
  | batchOpen => exact .of_eq
  | batchCommit => exact ((closeBatch_undisturbed s).trans (schedule_undisturbed _)).trans (complete_undisturbed _ o _ _)
  | batchAbort => exact batchAbortBody_undisturbed o s
  | report => exact reportBody_undisturbed o s
  | reportPeriodic => exact reportPeriodicBody_undisturbed o s

theorem take_undisturbed (op : Opcode) (o : Operands) (s : State) : Undisturbed s (take op o s) := by
  rw [take_eq]
  exact checked_undisturbed op o s (takeBody_undisturbed op o s)

/-! #### The sequencer -/

theorem popQueue_undisturbed (s : State) : Undisturbed s (popQueue s) := by
  obtain ⟨f, h⟩ := popQueue_eq s
  rw [h]
  exact .of_eq

theorem takeRecord_undisturbed (r : CmdRec) (s : State) : Undisturbed s (takeRecord r s) := by
  unfold takeRecord
  split
  · exact .trans .of_eq (take_undisturbed _ _ _)
  · exact .refl s

theorem enterIdle_undisturbed (e : Bool) (s : State) : Undisturbed s (enterIdle e s) := by
  obtain ⟨f, h⟩ := enterIdle_eq e s
  rw [h]
  exact .of_eq

theorem passOn_undisturbed (e : Bool) (s : State) : Undisturbed s (passOn e s) :=
  passOnFor_keeps (Undisturbed s) (fun _ h _ => h.trans .of_eq)
    (fun e _ h _ _ => h.trans (enterIdle_undisturbed e _)) (fun _ h _ _ _ => h.trans .of_eq)
    (fun r _ _ h _ _ _ => (h.trans (popQueue_undisturbed _)).trans (takeRecord_undisturbed r _)) _ e s (.refl s)

theorem handOn_undisturbed (e : Bool) (s : State) : Undisturbed s (handOn e s) := by
  unfold handOn
  split
  · exact .refl s
  · exact passOn_undisturbed e s

theorem resume_undisturbed (s : State) : Undisturbed s (resume s) := by
  rw [resume_eq]
  split
  · exact (beginUnwind_undisturbed s).trans (handOn_undisturbed true _)
  · exact handOn_undisturbed true s

theorem beginTake_undisturbed (s : State) : Undisturbed s (beginTake s) := by
  obtain ⟨f, h⟩ := beginTake_eq s
  rw [h]
  exact .of_eq

theorem takeStep_undisturbed (op : Opcode) (o : Operands) (s : State) :
    Undisturbed s (takeStep op o (take op o) s) := by
  rw [takeStep_eq]
  split
  · exact ((beginTake_undisturbed s).trans (take_undisturbed op o _)).trans (handOn_undisturbed true _)
  · exact .refl s

theorem finishCommand_undisturbed (r : CmdRec) (f : FlagWord) (s : State) : Undisturbed s (finishCommand r f s) := by
  unfold finishCommand
  split
  · split
    · exact .of_eq
    · exact .refl s
  · exact .refl s

theorem finishAbort_undisturbed (s : State) : Undisturbed s (finishAbort s) := by
  unfold finishAbort
  split
  · exact (finishCommand_undisturbed _ _ s).trans .of_eq
  · exact .refl s

/-! #### Time -/

theorem batchExpiry_undisturbed (s : State) : Undisturbed s (batchExpiry s) := by
  unfold batchExpiry
  split
  · exact .of_eq
  · exact (openVoid_undisturbed 2 s).trans (resume_undisturbed _)

theorem periodicJob_undisturbed (s : State) : Undisturbed s (periodicJob s) := by
  unfold periodicJob
  split
  · exact .refl s
  · split
    · exact appendEvent_undisturbed _ s
    · exact appendJob_undisturbed _ s (Bool.eq_false_iff.mpr ‹_›)

theorem intervalReload_undisturbed (s : State) : Undisturbed s (intervalReload s) := by
  unfold intervalReload
  refine Undisturbed.trans (Undisturbed.trans .of_eq (.of_chans fun h ch => ?_)) (periodicJob_undisturbed _)
  rw [Fin.getElem_fin, Vector.getElem_map]
  exact chanSound_latchRate (h ch)

theorem intervalEvent_undisturbed (s : State) : Undisturbed s (intervalEvent s) := by
  unfold intervalEvent
  split
  · exact appendEvent_undisturbed _ s
  · exact .refl s

theorem runTimed_undisturbed (e : TimedEvent) (s : State) : Undisturbed s (runTimed e s) := by
  cases e with
  | unit ch => exact unitArrives_undisturbed ch s
  | frameEnd => exact frameEnd_undisturbed s
  | batchExpiry => exact batchExpiry_undisturbed s
  | intervalReload => exact intervalReload_undisturbed s
  | intervalEvent => exact intervalEvent_undisturbed s
  | linkTimeout => exact linkTimeout_undisturbed s

theorem timeoutLower_undisturbed (s : State) : Undisturbed s (timeoutLower s) := by
  unfold timeoutLower
  split
  · split
    · split
      · exact .refl s
      · exact setFrame_undisturbed _ s
    · exact .refl s
  · exact .refl s

theorem deliverTick_undisturbed (others : List (List TimedEvent)) (s : State) :
    Undisturbed s (deliverTick others s) :=
  (Undisturbed.trans .of_eq (timeoutLower_undisturbed _)).trans (runThreads_undisturbed runTimed_undisturbed _ _)

theorem drivenAdvance_undisturbed (s : State) : Undisturbed s (drivenAdvance s) := by
  unfold drivenAdvance
  split
  · split
    · exact .refl s
    · exact setFrame_undisturbed _ s
  · exact .refl s

theorem withTimebase_undisturbed {s : State} {t : Timebase} (h : TimebaseSound s.timebase → TimebaseSound t) :
    Undisturbed s (s.withTimebase t) :=
  .of_blocks ⟨id, id, id, h, rfl⟩

theorem sampledState_undisturbed (levels : Byte) (s : State) : Undisturbed s (sampledState levels s) := by
  have hd := drivenAdvance_undisturbed s
  have hc : ChansSound s → ∀ ch : Fin 8, ChanSound (sampleAll levels s.chans).1[ch] := fun h ch => by
    rw [sampleAll_get]
    exact chanSound_sampleChan _ (h ch)
  exact ⟨⟨hd.events, hc, hd.link, timebaseSound_dividerStep, hd.rstn⟩, hd.flight, hd.values⟩

theorem execSample_undisturbed {levels : Byte} {s t : State} (h : execSample levels s = .next t) : Undisturbed s t := by
  rw [execSample_eq] at h
  cases h
  refine (sampledState_undisturbed levels s).trans ?_
  split
  · exact deliverTick_undisturbed _ _
  · exact runThreads_undisturbed runTimed_undisturbed _ _

theorem execUnitArrival_undisturbed {ch : Fin 8} {s t : State} (h : execUnitArrival ch s = .next t) :
    Undisturbed s t := by
  cases h
  split
  · exact (Undisturbed.of_chans fun h => chansSound_set h ch (chanSound_reload (h ch))).trans
      (unitArrives_undisturbed ch _)
  · exact .refl s

/-! #### The resets and the register window -/

theorem eventSound_empty : EventSound EventQueue.empty := by decide

theorem linkSound_cleared : LinkSound Link.cleared := by decide

theorem resetHostState_undisturbed (s : State) : Undisturbed s (resetHostState s) := by
  refine ⟨⟨fun _ => ?_, fun h ch => ?_, fun _ => ?_, fun h => ?_, resetHostState_rstn s⟩, fun x hx => ?_, fun i => ?_⟩
  · rw [resetHostState_events]; exact eventSound_empty
  · rw [resetHostState_chans]; exact h ch
  · rw [resetHostState_link]; exact linkSound_cleared
  · rw [resetHostState_timebase]; exact h
  · rw [resetHostState_engine]; exact hx
  · rw [resetHostState_entries]

theorem resetSequencer_undisturbed (s : State) : Undisturbed s (resetSequencer s) := by
  unfold resetSequencer
  split <;> exact .of_eq

theorem resetBatch_undisturbed (executing : Bool) (s : State) : Undisturbed s (resetBatch executing s) := by
  unfold resetBatch
  split
  · exact .refl s
  · dsimp only
    split
    · exact .of_eq
    · exact .trans .of_eq (beginUnwind_undisturbed _)
  · exact .of_eq
  · exact .of_eq

theorem interfaceReset_undisturbed (s : State) : Undisturbed s (interfaceReset s) := by
  have h := ((resetHostState_undisturbed s).trans (resetSequencer_undisturbed _)).trans
    (resetBatch_undisturbed (memberExecuting s) _)
  unfold interfaceReset settleReset
  split
  · exact h
  · exact h.trans .of_eq

theorem submitWrite_undisturbed (s : State) : Undisturbed s (submitWrite s) := by
  unfold submitWrite
  dsimp only
  split
  · exact .trans .of_eq (handOn_undisturbed false _)
  · exact .of_eq

theorem popRing_undisturbed (s : State) : Undisturbed s (popRing s) := by
  unfold popRing
  split
  · exact .refl s
  · exact .trans .of_eq (handOn_undisturbed false _)

/-- R143: what a pop of the event queue touches. -/
theorem popEvents_eq (s : State) : ∃ q f, popEvents s = (s.withEvents q).withIrqFlag f := by
  unfold popEvents
  split
  · exact ⟨s.events, s.window.irqFlag, rfl⟩
  · rename_i r rest _
    dsimp only
    split
    · exact ⟨{ s.events with records := rest }, s.window.irqFlag, rfl⟩
    · exact ⟨_, _, rfl⟩

theorem popEvents_undisturbed (s : State) : Undisturbed s (popEvents s) := by
  have hs : EventSound s.events → EventSound (popEvents s).events := popEvents_sound
  obtain ⟨q, f, h⟩ := popEvents_eq s
  rw [h] at hs ⊢
  exact .of_blocks (.of_events_link hs id)

theorem ctrlEnable_masked (v : Byte) : ctrlEnable (v &&& 0x1F) = ctrlEnable v := by
  simp [ctrlEnable]

/-- R163, R174: a write of LINKCTRL leaves the link OFF exactly when it clears the enable bit. -/
theorem writeLinkctrl_sound (v : Byte) {s : State} (h : LinkSound s.link) : LinkSound (writeLinkctrl v s).link := by
  obtain ⟨hlen, hframe, hoff, hidle⟩ := h
  have hmask := ctrlEnable_masked v
  unfold writeLinkctrl
  dsimp only
  split
  · rename_i hen
    have hon : ctrlEnable (v &&& 0x1F) ≠ false := by rw [hmask, hen]; exact Bool.noConfusion
    split
    · exact tryStart_sound 1 ⟨hlen, fun hs => (by cases hs), ⟨fun hs => (by cases hs), fun hc => absurd hc hon⟩⟩
    · rename_i hstate
      exact ⟨hlen, hframe, ⟨fun hs => absurd hs hstate, fun hc => absurd hc hon⟩, hidle⟩
  · rename_i hen
    have hon : ctrlEnable (v &&& 0x1F) = false := hmask.trans (Bool.eq_false_iff.mpr hen)
    split
    · rename_i hstate
      exact ⟨hlen, hframe, ⟨fun _ => hon, fun _ => hstate⟩, hidle⟩
    · exact ⟨hlen, fun hs => (by cases hs), ⟨fun _ => hon, fun _ => rfl⟩, fun hs => (by cases hs)⟩
    · unfold cutFrame
      rw [dropHead_link]
      exact ⟨by simp; omega, fun hs => (by cases hs), ⟨fun _ => hon, fun _ => rfl⟩, fun hs => (by cases hs)⟩

/-- R174: a write of LINKCTRL changes the link alone, or cuts the frame under way. -/
theorem writeLinkctrl_cases (v : Byte) (s : State) :
    (∃ l, writeLinkctrl v s = s.withLink l)
      ∨ writeLinkctrl v s = cutFrame (s.withLink { s.link with ctrl := v &&& 0x1F }) := by
  unfold writeLinkctrl
  dsimp only
  split
  · split
    · rw [tryStart_eq]
      exact .inl ⟨_, rfl⟩
    · exact .inl ⟨_, rfl⟩
  · split
    · exact .inl ⟨_, rfl⟩
    · exact .inl ⟨_, rfl⟩
    · exact .inr rfl

theorem writeLinkctrl_undisturbed (v : Byte) (s : State) : Undisturbed s (writeLinkctrl v s) := by
  have hsound : LinkSound s.link → LinkSound (writeLinkctrl v s).link := writeLinkctrl_sound v
  rcases writeLinkctrl_cases v s with ⟨l, h⟩ | h <;> rw [h] at hsound ⊢
  · exact .of_link hsound
  · exact dropHead_undisturbed _ hsound

theorem writeReg_undisturbed (a : Nat) (v : Byte) (s : State) : Undisturbed s (writeReg a v s) :=
  writeReg_cases (P := Undisturbed s)
    (control := iteInduction (fun _ => interfaceReset_undisturbed s) fun _ => .refl s)
    (window := fun _ => .of_eq) (submit := submitWrite_undisturbed s) (ring := popRing_undisturbed s)
    (events := popEvents_undisturbed s) (interval := fun _ => .of_eq) (limit := fun _ => .of_eq)
    (linkctrl := writeLinkctrl_undisturbed v s)
    (timeout := .of_link fun h => linkSound_of_eq h rfl rfl rfl) (none := .refl s) a

theorem phaseToState_undisturbed (s : State) : Undisturbed s (phaseToState s) :=
  .of_link fun h => linkSound_of_eq h rfl rfl rfl

theorem hostWrite_undisturbed {act : State → State} {s : State} (h : ∀ s, Undisturbed s (act s)) :
    Undisturbed s (hostWrite act s) := by
  unfold hostWrite
  split
  · exact (phaseToState_undisturbed s).trans (h _)
  · exact .refl s

theorem readReg_undisturbed (a : Nat) (s : State) : Undisturbed s (readReg a s) :=
  readReg_cases (P := Undisturbed s) .of_eq
    (fun _ _ _ _ _ _ => .of_blocks (.of_events_link id fun h => linkSound_of_eq h rfl rfl rfl)) a

end Sys2Proof.Machine
end

section
/-! ### What every step keeps outside the engine, the batch unit and the sequencer -/

namespace Sys2Proof.Machine

open Sys2Proof.Safety

set_option Elab.async false

/-! #### Values and the operation in flight -/

/-- The rows that are neither an engine completion nor an event of the reset lines. -/
def isOrdinary : Instr → Bool
  | .powerOnReset | .interfaceReset | .rstnRise => false
  | .postCompletion | .arithmeticCompletion | .restoreCompletion => false
  | _ => true

theorem exec_undisturbed {c : Instr} {s t : State} (h : exec c s = .next t) (hc : isOrdinary c = true) :
    Undisturbed s t :=
  exec_rows (P := fun c t => isOrdinary c = true → Undisturbed s t)
    (powerOn := fun hc => nomatch hc) (reset := fun hc => nomatch hc) (rise := fun hc => nomatch hc)
    (sample := fun _ _ h _ => execSample_undisturbed h)
    (unit := fun _ _ h _ => execUnitArrival_undisturbed h)
    (tick := fun _ => (withTimebase_undisturbed timebaseSound_endTick).trans (deliverTick_undisturbed [] _))
    (grant := fun _ => arrive_undisturbed s)
    (post := fun _ _ hc => nomatch hc) (arith := fun _ _ hc => nomatch hc) (restore := fun _ _ hc => nomatch hc)
    (takes := fun op o _ => takeStep_undisturbed op o s)
    (batchTimer := fun _ => iteInduction (fun _ => batchExpiry_undisturbed s) fun _ => .refl s)
    (interval := fun _ => iteInduction
      (fun _ => (intervalReload_undisturbed s).trans (intervalEvent_undisturbed _)) fun _ => .refl s)
    (frame := fun _ => frameEnd_undisturbed s)
    (timeout := fun _ => linkTimeout_undisturbed s)
    (write := fun _ a v _ _ => hostWrite_undisturbed (writeReg_undisturbed a.toNat v))
    (read := fun _ a _ _ => readReg_undisturbed a.toNat s)
    (falling := fun _ => fallingEdge_undisturbed s)
    (rising := fun _ => risingEdge_undisturbed s) h hc

/-- Settles O8: an ordinary row disturbs nothing, and the reset lines reach neither the store nor the engine. -/
theorem onlyCompletionsEndOperations : Obligations.OnlyCompletionsEndOperations := by
  intro c s t h hpower hpost harith hrestore
  by_cases hc : isOrdinary c = true
  · have hu := exec_undisturbed h hc
    exact ⟨hu.values, hu.flight⟩
  · cases c with
    | powerOnReset => exact absurd rfl hpower
    | postCompletion => exact absurd rfl hpost
    | arithmeticCompletion => exact absurd rfl harith
    | restoreCompletion => exact absurd rfl hrestore
    | rstnRise => cases h; exact ⟨fun _ => rfl, fun _ hx => hx⟩
    | interfaceReset =>
      cases h
      have hu := interfaceReset_undisturbed s
      exact iteInduction (motive := fun t : State => (∀ i : Fin 32, t.entries[i].value = s.entries[i].value)
          ∧ ∀ x : Operation, s.engine.inFlight = some x → t.engine.inFlight = some x)
        (fun _ => ⟨hu.values, hu.flight⟩) fun _ => ⟨fun _ => rfl, fun _ hx => hx⟩
    | _ => exact absurd rfl hc

/-! #### The blocks around the core at an engine completion -/

namespace BlocksKept

variable {s t : State} (h : BlocksKept s t)

include h

theorem withEntries (es : Vector Entry 32) : BlocksKept s (t.withEntries es) := h.trans .of_eq

theorem withBatch (b : Batch) : BlocksKept s (t.withBatch b) := h.trans .of_eq

theorem withSeq (q : SeqState) : BlocksKept s (t.withSeq q) := h.trans .of_eq

theorem freeEngine : BlocksKept s (freeEngine t) := h.trans .of_eq

theorem refreshPostReq : BlocksKept s (refreshPostReq t) := h.trans .of_eq

theorem arbitrate : BlocksKept s (arbitrate t) := h.trans (arbitrate_blocksKept t)

theorem undisturbed {u : State} (hu : Undisturbed t u) : BlocksKept s u := h.trans hu.toBlocksKept

theorem appendThreads (threads : List (List EventBody)) : BlocksKept s (appendThreads threads t) :=
  h.undisturbed (appendThreads_undisturbed threads t)

theorem resume : BlocksKept s (resume t) := h.undisturbed (resume_undisturbed t)

theorem postDone (op : Operation) : BlocksKept s (postDone op t) :=
  ((h.withEntries _).appendThreads _).freeEngine.arbitrate

theorem memberDone (ws : List Written) : BlocksKept s (memberDone ws t) := by
  unfold Machine.memberDone
  dsimp only
  split
  · exact ((h.withEntries _).withBatch _).undisturbed (openVoid_undisturbed 2 _)
  · exact (h.withEntries _).withBatch _

theorem plainDone (ws : List Written) : BlocksKept s (plainDone ws t) := (h.withEntries _).appendThreads _

theorem finishCommand (r : CmdRec) (f : FlagWord) : BlocksKept s (finishCommand r f t) :=
  h.undisturbed (finishCommand_undisturbed r f t)

theorem arithDone (r : CmdRec) (op : Operation) : BlocksKept s (arithDone r op t) := by
  unfold Machine.arithDone
  dsimp only
  split
  · exact ((((h.withEntries _).finishCommand _ _).withSeq _).memberDone _).freeEngine.arbitrate.resume
  · exact ((((h.withEntries _).finishCommand _ _).withSeq _).plainDone _).freeEngine.arbitrate.resume

theorem restoreDone (op : Operation) : BlocksKept s (restoreDone op t) := by
  unfold Machine.restoreDone
  dsimp only
  have hback := fun es b => (h.withEntries es).withBatch b
  split
  · exact (((hback _ _).withBatch _).undisturbed
      (finishAbort_undisturbed (endUnwind _))).refreshPostReq.freeEngine.arbitrate.resume
  · exact (hback _ _).refreshPostReq.freeEngine.arbitrate.resume

end BlocksKept

/-- No row but those of the reset lines unsettles the four blocks or moves RSTn. -/
theorem exec_blocksKept {c : Instr} {s t : State} (h : exec c s = .next t) (hpower : c ≠ .powerOnReset)
    (hreset : c ≠ .interfaceReset) (hrise : c ≠ .rstnRise) : BlocksKept s t := by
  have hs : BlocksKept s s := .of_eq
  by_cases hc : isOrdinary c = true
  · exact (exec_undisturbed h hc).toBlocksKept
  · cases c with
    | powerOnReset => exact absurd rfl hpower
    | interfaceReset => exact absurd rfl hreset
    | rstnRise => exact absurd rfl hrise
    | postCompletion =>
      rcases execPostCompletion_cases h with ⟨_, _, _, _, -, rfl⟩ | rfl
      · exact hs.postDone _
      · exact hs
    | arithmeticCompletion =>
      rcases execArithmeticCompletion_cases h with ⟨_, _, -, -, -, rfl⟩ | rfl
      · exact hs.arithDone _ _
      · exact hs
    | restoreCompletion =>
      rcases execRestoreCompletion_cases h with ⟨_, _, -, rfl⟩ | rfl
      · exact hs.restoreDone _
      · exact hs
    | _ => exact absurd rfl hc

/-- The event queue, the channels, the link and the divider stay sound in every step. -/
theorem exec_blocksSound {c : Instr} {s t : State} (h : exec c s = .next t) (hevents : EventSound s.events)
    (hchans : ChansSound s) (hlink : LinkSound s.link) (htime : TimebaseSound s.timebase) :
    EventSound t.events ∧ ChansSound t ∧ LinkSound t.link ∧ TimebaseSound t.timebase := by
  have of_kept : ∀ {t}, BlocksKept s t → EventSound t.events ∧ ChansSound t ∧ LinkSound t.link ∧ TimebaseSound t.timebase :=
    fun h => ⟨h.events hevents, h.chans hchans, h.link hlink, h.timebase htime⟩
  cases c with
  | powerOnReset =>
    cases h
    have hr := invariantHoldsAtReset
    exact ⟨hr.events, hr.chans, hr.link, hr.timebase⟩
  | rstnRise => cases h; exact of_kept (t := s) .of_eq
  | interfaceReset =>
    cases h
    have hk := of_kept (interfaceReset_undisturbed s).toBlocksKept
    exact iteInduction (motive := fun t : State => EventSound t.events ∧ ChansSound t ∧ LinkSound t.link
        ∧ TimebaseSound t.timebase) (fun _ => hk) fun _ => of_kept .of_eq
  | _ => exact of_kept (exec_blocksKept h nofun nofun nofun)

/-! #### The host-facing state while RSTn is low (R192) -/

/-- R192: RSTn is low and the host-facing state is at its reset values. -/
structure HostReset (s : State) : Prop where
  rstn : s.rstn = false
  cmdQueue : s.cmdQueue = []
  ring : s.ring = []
  owed : s.owed = false
  flags : s.flags = FlagWord.cleared
  interval : s.interval = IntervalTimer.cleared
  batchLimit : s.batchLimit = ⟨0, 0⟩
  link : s.link = Link.cleared
  window : s.window = { Window.cleared with irqFlag := s.window.irqFlag }
  comp : s.window.irqFlag.comp = false

theorem hostReset_of_quiet {s : State} (h : HostQuiet s) (hr : s.rstn = false) : HostReset s := by
  obtain ⟨h1, h2, h3, h4, h5, h6, h7, h8, h9⟩ := h hr
  exact ⟨hr, h1, h2, h3, h4, h5, h6, h7, h8, h9⟩

namespace HostReset

theorem quiet {s : State} (h : HostReset s) : HostQuiet s := fun _ =>
  ⟨h.cmdQueue, h.ring, h.owed, h.flags, h.interval, h.batchLimit, h.link, h.window, h.comp⟩

/-- What none of these fields sees. -/
theorem of_eq {s t : State} (h : HostReset s) (rstn : t.rstn = s.rstn := by rfl)
    (cmdQueue : t.cmdQueue = s.cmdQueue := by rfl) (ring : t.ring = s.ring := by rfl) (owed : t.owed = s.owed := by rfl)
    (flags : t.flags = s.flags := by rfl) (interval : t.interval = s.interval := by rfl)
    (batchLimit : t.batchLimit = s.batchLimit := by rfl) (link : t.link = s.link := by rfl)
    (window : t.window = s.window := by rfl) : HostReset t :=
  ⟨rstn.trans h.rstn, cmdQueue.trans h.cmdQueue, ring.trans h.ring, owed.trans h.owed, flags.trans h.flags,
    interval.trans h.interval, batchLimit.trans h.batchLimit, link.trans h.link,
    by rw [window]; exact h.window, by rw [window]; exact h.comp⟩

/-- R192: the interrupt flags other than COMP may be set. -/
theorem of_irqFlag {s : State} (h : HostReset s) {f : IrqBits} (hf : f.comp = s.window.irqFlag.comp) :
    HostReset (s.withIrqFlag f) :=
  ⟨h.rstn, h.cmdQueue, h.ring, h.owed, h.flags, h.interval, h.batchLimit, h.link,
    by rw [State.withIrqFlag_window, h.window], hf.trans h.comp⟩

theorem appendEvent {s : State} (h : HostReset s) (b : EventBody) : HostReset (appendEvent b s) := by
  rcases appendEvent_cases b s with ⟨-, he⟩ | ⟨-, he⟩ <;> rw [he]
  · exact (h.of_eq (t := s.withEvents _)).of_irqFlag rfl
  · exact h.of_eq

theorem appendThreads {s : State} (h : HostReset s) (threads : List (List EventBody)) :
    HostReset (appendThreads threads s) :=
  runThreads_keeps Machine.appendEvent HostReset (fun b _ h => h.appendEvent b) (fun _ _ h => h.of_eq) threads s h

theorem withEntries {s : State} (h : HostReset s) (es : Vector Entry 32) : HostReset (s.withEntries es) := h.of_eq

theorem withChans {s : State} (h : HostReset s) (cs : Vector Channel 8) : HostReset (s.withChans cs) := h.of_eq

theorem withBatch {s : State} (h : HostReset s) (b : Batch) : HostReset (s.withBatch b) := h.of_eq

theorem withSeq {s : State} (h : HostReset s) (q : SeqState) : HostReset (s.withSeq q) := h.of_eq

theorem freeEngine {s : State} (h : HostReset s) : HostReset (freeEngine s) := h.of_eq

theorem refreshPostReq {s : State} (h : HostReset s) : HostReset (refreshPostReq s) := h.of_eq

theorem arbitrate {s : State} (h : HostReset s) : HostReset (arbitrate s) := by
  rw [arbitrate_eq]
  exact h.of_eq

theorem arrive {s : State} (h : HostReset s) : HostReset (arrive s) := by
  rw [arrive_eq]
  exact h.of_eq

theorem beginUnwind {s : State} (h : HostReset s) : HostReset (beginUnwind s) := by
  rw [beginUnwind_eq]
  exact h.of_eq

theorem openVoid {s : State} (h : HostReset s) (d : Byte) : HostReset (openVoid d s) :=
  (h.appendEvent ⟨.batchVoid, 0, d⟩).of_eq

theorem enterIdle {s : State} (h : HostReset s) (e : Bool) : HostReset (enterIdle e s) := by
  unfold Machine.enterIdle
  dsimp only
  split
  · exact (h.of_eq (t := s.withSeq .idle)).of_irqFlag rfl
  · exact h.of_eq

/-- R192: with an empty queue the sequencer takes nothing. -/
theorem handOn {s : State} (h : HostReset s) (e : Bool) : HostReset (handOn e s) := by
  unfold Machine.handOn
  split
  · exact h
  · exact passOnFor_keeps HostReset (fun _ h _ => h.of_eq) (fun e _ h _ _ => h.enterIdle e) (fun _ h _ _ _ => h.of_eq)
      (fun r q s h _ hq _ => by rw [h.cmdQueue] at hq; cases hq) _ e s h

theorem resume {s : State} (h : HostReset s) : HostReset (resume s) := by
  rw [resume_eq]
  split
  · exact h.beginUnwind.handOn true
  · exact h.handOn true

theorem finishCommand {s : State} (h : HostReset s) (r : CmdRec) (f : FlagWord) : finishCommand r f s = s := by
  simp [Machine.finishCommand, h.owed]

theorem postDone {s : State} (h : HostReset s) (op : Operation) : HostReset (postDone op s) := by
  unfold Machine.postDone
  exact ((h.withEntries _).appendThreads _).freeEngine.arbitrate

theorem memberDone {s : State} (h : HostReset s) (ws : List Written) : HostReset (memberDone ws s) := by
  unfold Machine.memberDone
  dsimp only
  split
  · exact ((h.withEntries _).withBatch _).openVoid 2
  · exact (h.withEntries _).withBatch _

theorem arithDone {s : State} (h : HostReset s) (r : CmdRec) (op : Operation) : HostReset (arithDone r op s) := by
  unfold Machine.arithDone
  dsimp only
  rw [(h.withEntries _).finishCommand]
  split
  · exact (((h.withEntries _).withSeq _).memberDone _).freeEngine.arbitrate.resume
  · exact ((((h.withEntries _).withSeq _).withEntries _).appendThreads _).freeEngine.arbitrate.resume

theorem finishAbort {s : State} (h : HostReset s) : HostReset (finishAbort s) := by
  unfold Machine.finishAbort
  split
  · rw [h.finishCommand]
    exact h.withSeq _
  · exact h

theorem restoreDone {s : State} (h : HostReset s) (op : Operation) : HostReset (restoreDone op s) := by
  have hback := fun es b => (h.withEntries es).withBatch b
  unfold Machine.restoreDone
  dsimp only
  split
  · exact ((hback _ _).withBatch _).finishAbort.refreshPostReq.freeEngine.arbitrate.resume
  · exact (hback _ _).refreshPostReq.freeEngine.arbitrate.resume

theorem unitArrives {s : State} (h : HostReset s) (ch : Fin 8) : HostReset (unitArrives ch s) := by
  unfold Machine.unitArrives
  dsimp only
  split
  · exact ((h.withChans _).appendEvent _).refreshPostReq.arrive
  · exact (h.withChans _).refreshPostReq.arrive

theorem batchExpiry {s : State} (h : HostReset s) : HostReset (batchExpiry s) := by
  unfold Machine.batchExpiry
  split
  · exact h.of_eq
  · exact (h.openVoid 2).resume

/-- R192: without a template nothing is queued, and a count of zero is reloaded with zero. -/
theorem intervalReload {s : State} (h : HostReset s) : HostReset (intervalReload s) := by
  have ht : s.link.template = none := by rw [h.link]; rfl
  simp only [Machine.intervalReload, periodicJob, State.withChans_link, State.withInterval_link, ht]
  refine h.of_eq (interval := ?_)
  simp only [State.withChans_interval, State.withInterval_interval]
  rw [h.interval]
  rfl

theorem intervalEvent {s : State} (h : HostReset s) : HostReset (intervalEvent s) := by
  unfold Machine.intervalEvent
  split
  · exact h.appendEvent _
  · exact h

theorem link_off {s : State} (h : HostReset s) : s.link.state = .off := by
  rw [h.link]
  rfl

theorem frameEnd {s : State} (h : HostReset s) : frameEnd s = s := by
  simp [Machine.frameEnd, h.link_off]

theorem linkTimeout {s : State} (h : HostReset s) : linkTimeout s = s := by
  simp [Machine.linkTimeout, h.link_off, LinkState.frame]

theorem runTimed {s : State} (h : HostReset s) (e : TimedEvent) : HostReset (runTimed e s) := by
  cases e with
  | unit ch => exact h.unitArrives ch
  | frameEnd => unfold Machine.runTimed; rw [h.frameEnd]; exact h
  | batchExpiry => exact h.batchExpiry
  | intervalReload => exact h.intervalReload
  | intervalEvent => exact h.intervalEvent
  | linkTimeout => unfold Machine.runTimed; rw [h.linkTimeout]; exact h

theorem runThreads {s : State} (h : HostReset s) (threads : List (List TimedEvent)) :
    HostReset (runThreads Machine.runTimed threads s) :=
  runThreads_keeps Machine.runTimed HostReset (fun e _ h => h.runTimed e) (fun _ _ h => h.of_eq) threads s h

theorem deliverTick {s : State} (h : HostReset s) (others : List (List TimedEvent)) :
    HostReset (deliverTick others s) := by
  refine runThreads (s := lowerCounts s) ?_ _
  have hl : lowerCounts s = (s.withBatch (batchLower s.batch)).withInterval (intervalLower s.interval) := by
    simp [lowerCounts, timeoutLower, h.link_off, LinkState.frame]
  rw [hl]
  refine h.of_eq (interval := ?_)
  rw [State.withInterval_interval, h.interval]
  rfl

theorem execSample {s t : State} (h : HostReset s) {levels : Byte} (ht : execSample levels s = .next t) :
    HostReset t := by
  have hs : HostReset (sampledState levels s) := by
    have hd : drivenAdvance s = s := by simp [drivenAdvance, h.link_off]
    unfold sampledState
    rw [hd]
    exact h.of_eq
  rw [execSample_eq] at ht
  cases ht
  exact iteInduction (fun _ => hs.deliverTick _) fun _ => hs.runThreads _

theorem execUnitArrival {s t : State} (h : HostReset s) {ch : Fin 8} (ht : execUnitArrival ch s = .next t) :
    HostReset t := by
  cases ht
  exact iteInduction (fun _ => (h.withChans _).unitArrives ch) fun _ => h

theorem fallingEdge {s : State} (h : HostReset s) : fallingEdge s = s := by
  simp [Machine.fallingEdge, h.link_off]

theorem risingEdge {s : State} (h : HostReset s) : risingEdge s = s := by
  simp [Machine.risingEdge, h.link_off]

end HostReset

/-- R191: an interface reset leaves the host-facing state at its reset values. -/
theorem interfaceReset_hostReset (s : State) : HostReset ((interfaceReset s).withRstn false) := by
  have hhost : HostReset (((resetHostState s).withOwed false).withRstn false) := by
    refine ⟨rfl, ?_, ?_, rfl, ?_, ?_, ?_, ?_, ?_, ?_⟩ <;> simp [Window.cleared, IrqBits.cleared]
  have hseq : HostReset ((resetSequencer (resetHostState s)).withRstn false) := by
    unfold resetSequencer
    split <;> exact hhost.of_eq
  have hbatch : HostReset ((resetBatch (memberExecuting s) (resetSequencer (resetHostState s))).withRstn false) := by
    generalize resetSequencer (resetHostState s) = u at hseq
    unfold resetBatch
    split
    · exact hseq
    · dsimp only
      split
      · exact hseq.of_eq
      · rw [beginUnwind_eq]
        exact hseq.of_eq
    · exact hseq.of_eq
    · exact hseq.of_eq
  unfold interfaceReset settleReset
  split
  · exact hbatch
  · exact hbatch.of_eq

/-- R192: while RSTn is low no row but power-on and the rise moves the host-facing state from its reset values. -/
theorem exec_hostReset {c : Instr} {s t : State} (h : exec c s = .next t) (hs : HostReset s) : HostQuiet t := by
  have hlow : s.rstn ≠ true := by rw [hs.rstn]; exact Bool.noConfusion
  exact exec_rows (P := fun _ t => HostQuiet t)
    (powerOn := fun hr => nomatch hr)
    (reset := by rw [if_neg hlow]; exact hs.quiet)
    (rise := fun hr => nomatch hr)
    (sample := fun _ _ ht => (hs.execSample ht).quiet)
    (unit := fun _ _ ht => (hs.execUnitArrival ht).quiet)
    (tick := (HostReset.deliverTick hs.of_eq []).quiet)
    (grant := hs.arrive.quiet)
    (post := fun t ht => by
      rcases execPostCompletion_cases ht with ⟨_, _, _, _, -, rfl⟩ | rfl
      · exact (hs.postDone _).quiet
      · exact hs.quiet)
    (arith := fun t ht => by
      rcases execArithmeticCompletion_cases ht with ⟨_, _, -, -, -, rfl⟩ | rfl
      · exact (hs.arithDone _ _).quiet
      · exact hs.quiet)
    (restore := fun t ht => by
      rcases execRestoreCompletion_cases ht with ⟨_, _, -, rfl⟩ | rfl
      · exact (hs.restoreDone _).quiet
      · exact hs.quiet)
    (takes := fun op o => by
      have hno : canTake (recordOf op o) s = false := by simp [canTake, hs.rstn]
      rw [takeStep_eq, hno]
      exact hs.quiet)
    (batchTimer := iteInduction (fun _ => hs.batchExpiry.quiet) fun _ => hs.quiet)
    (interval := iteInduction (fun _ => hs.intervalReload.intervalEvent.quiet) fun _ => hs.quiet)
    (frame := by rw [hs.frameEnd]; exact hs.quiet)
    (timeout := by rw [hs.linkTimeout]; exact hs.quiet)
    (write := fun _ _ _ _ => by unfold hostWrite; rw [if_neg hlow]; exact hs.quiet)
    (read := fun _ a _ => readReg_cases (P := HostQuiet) (HostReset.of_eq hs).quiet (fun hr => absurd hr hlow) _)
    (falling := by rw [hs.fallingEdge]; exact hs.quiet)
    (rising := by rw [hs.risingEdge]; exact hs.quiet) h

/-- R191, R192: the host-facing state is at its reset values whenever RSTn is low. -/
theorem exec_hostQuiet {c : Instr} {s t : State} (h : exec c s = .next t) (hq : HostQuiet s) : HostQuiet t := by
  cases hr : s.rstn with
  | false => exact exec_hostReset h (hostReset_of_quiet hq hr)
  | true =>
    cases c with
    | powerOnReset => cases h; exact fun hlow => nomatch hlow
    | rstnRise => cases h; exact fun hlow => nomatch hlow
    | interfaceReset =>
      cases h
      rw [if_pos hr]
      exact (interfaceReset_hostReset s).quiet
    | _ =>
      intro hlow
      rw [(exec_blocksKept h nofun nofun nofun).rstn, hr] at hlow
      cases hlow

end Sys2Proof.Machine
end

section
/-! ### The engine, the batch unit and the sequencer between two events of a step -/

namespace Sys2Proof.Machine

open Sys2Proof.Safety

set_option Elab.async false

/-! #### The command in hand and the operation in flight -/

theorem isWaiting_of_empty {s : State} (h : hasCommand s = false) : isWaiting s.seq = false := by
  unfold hasCommand inHand at h
  cases hs : s.seq with
  | waiting r => simp [hs] at h
  | _ => rfl

theorem isExecuting_of_empty {s : State} (h : hasCommand s = false) : isExecuting s.seq = false := by
  unfold hasCommand inHand at h
  cases hs : s.seq with
  | executing r => simp [hs] at h
  | _ => rfl

theorem waiting_of_isWaiting {q : SeqState} (h : isWaiting q = true) : ∃ r, q = .waiting r := by
  cases q with
  | waiting r => exact ⟨r, rfl⟩
  | _ => cases h

/-- R118: a restore is in flight. -/
def restoring (s : State) : Bool :=
  match s.engine.inFlight with
  | some ⟨.restore _, _⟩ => true
  | _ => false

theorem wantsCommand_eq (s : State) :
    wantsCommand s = (isWaiting s.seq
      || (s.batch.phase == .unwinding && !s.batch.member && !s.batch.undo.isEmpty && !restoring s)) := by
  unfold wantsCommand restoring
  cases hx : s.engine.inFlight with
  | none => rfl
  | some x =>
    obtain ⟨k, g⟩ := x
    cases k <;> rfl

theorem restoring_of_free {s : State} (h : engineFree s = true) : restoring s = false := by
  unfold engineFree at h
  unfold restoring
  rw [Option.isNone_iff_eq_none.mp h]

theorem engineFree_iff {s : State} : engineFree s = true ↔ s.engine.inFlight = none := by
  simp [engineFree]

/-- R21: an arithmetic operation is in flight for a command in EXECUTING. -/
theorem flightSound_arith {s : State} {x : Operation} (hx : s.engine.inFlight = some x) (hk : x.kind.isArith = true) :
    flightSound s = isExecuting s.seq := by
  obtain ⟨k, g⟩ := x
  unfold flightSound
  rw [hx]
  cases k with
  | post ch w d => cases hk
  | restore p => cases hk
  | _ => rfl

/-- R97, R98: a command in EXECUTING has an arithmetic operation in flight. -/
theorem arith_of_executing {s : State} (h : flightSound s = true) {r : CmdRec} (hs : s.seq = .executing r) :
    ∃ x, s.engine.inFlight = some x ∧ x.kind.isArith = true := by
  unfold flightSound at h
  rw [hs] at h
  split at h
  · cases h
  · simp [isExecuting] at h
  · simp [isExecuting] at h
  · rename_i op hpost hrestore hx
    refine ⟨op, hx, ?_⟩
    obtain ⟨k, g⟩ := op
    cases k with
    | post ch w d => exact absurd rfl (hpost ch w d g)
    | restore p => exact absurd rfl (hrestore p g)
    | _ => rfl

theorem flightSound_free {s : State} (h : s.engine.inFlight = none) : flightSound s = !isExecuting s.seq := by
  unfold flightSound
  rw [h]

theorem flightSound_post {s : State} {ch : Fin 8} {w : Nat} {d : Direction} {g : Fin 32}
    (h : s.engine.inFlight = some ⟨.post ch w d, g⟩) :
    flightSound s = (!chainHeld s.entries g && !isExecuting s.seq) := by
  unfold flightSound
  rw [h]

theorem flightSound_restore {s : State} {p : Dec} {g : Fin 32} (h : s.engine.inFlight = some ⟨.restore p, g⟩) :
    flightSound s = (s.batch.phase == .unwinding && s.batch.undo.head? == some ⟨g, p⟩ && !isExecuting s.seq) := by
  unfold flightSound
  rw [h]

/-- R118: a restore in flight is of the newest record of a batch that unwinds. -/
theorem flightSound_restoring {s : State} (h : flightSound s = true) (hr : restoring s = true) :
    s.batch.phase = .unwinding ∧ s.batch.undo ≠ [] ∧ isExecuting s.seq = false := by
  unfold restoring at hr
  unfold flightSound at h
  split at hr
  · rename_i p t hx
    rw [hx] at h
    simp only [Bool.and_eq_true, beq_iff_eq, Bool.not_eq_true'] at h
    obtain ⟨⟨hphase, hhead⟩, hexec⟩ := h
    exact ⟨hphase, fun hnil => (by rw [hnil] at hhead; cases hhead), hexec⟩
  · cases hr

/-- What `flightSound` reads, while no restore is in flight. -/
theorem flightSound_congr {s t : State} (h : flightSound s = true) (hr : restoring s = false)
    (hx : t.engine.inFlight = s.engine.inFlight) (hentries : ∀ g, chainHeld t.entries g = chainHeld s.entries g)
    (hseq : isExecuting t.seq = isExecuting s.seq) : flightSound t = true := by
  unfold flightSound restoring at *
  rw [hx, hseq]
  split at h
  · exact h
  · rw [hentries]; exact h
  · rename_i hx; rw [hx] at hr; cases hr
  · exact h

/-! #### The undo space found for a command of a batch (R114) -/

theorem spaceSound_plain {s : State} (h : s.batch.member = false) : spaceSound s = true := by
  unfold spaceSound
  rw [h]
  rfl

theorem spaceSound_waiting {s : State} {r : CmdRec} (h : s.seq = .waiting r) :
    spaceSound s = (!s.batch.member || !undoShort s r.ops.target) := by
  unfold spaceSound
  rw [h]

theorem spaceSound_executing {s : State} {r : CmdRec} {x : Operation} (h : s.seq = .executing r)
    (hx : s.engine.inFlight = some x) : spaceSound s = (!s.batch.member || !undoShort s x.target) := by
  unfold spaceSound
  rw [h, hx]

theorem spaceSound_idle {s : State} (hw : isWaiting s.seq = false) (he : isExecuting s.seq = false) :
    spaceSound s = true := by
  unfold spaceSound
  cases hs : s.seq with
  | waiting r => rw [hs] at hw; cases hw
  | executing r => rw [hs] at he; cases he
  | _ => exact Bool.or_true _

/-- R114: outside EXECUTING the operation in flight is not in question. -/
theorem spaceSound_congr {s t : State} (h : spaceSound s = true) (he : isExecuting s.seq = false)
    (hseq : t.seq = s.seq) (hbatch : t.batch = s.batch) (hentries : t.entries = s.entries) : spaceSound t = true := by
  cases hs : s.seq with
  | waiting r =>
    rw [spaceSound_waiting hs] at h
    rw [spaceSound_waiting (hseq.trans hs)]
    unfold undoShort at h ⊢
    rw [hbatch, hentries]
    exact h
  | executing r => rw [hs] at he; cases he
  | _ => exact spaceSound_idle (by rw [hseq, hs]; rfl) (by rw [hseq, hs]; rfl)

/-! #### The core between two events -/

/-- The store, the batch unit, the sequencer, the engine and the queues agree, but a sequencer without a command need not
have passed on yet, a side may have a request that it has not made, and a FREE engine may have one to decide. -/
structure CoreSound (s : State) : Prop where
  store : StoreSound s.entries
  undo : UndoSound s.entries s.batch.undo
  batch : BatchSound s
  hand : hasCommand s = true → handSound s = true
  empty : hasCommand s = false → s.batch.member = false
  flight : flightSound s = true
  space : spaceSound s = true
  queue : QueueSound s.cmdQueue
  ring : RingSound s
  sides : SidesSound s
  postReq : s.engine.postReq = anyEligible s
  cmdReq : s.engine.cmdReq = true → wantsCommand s = true

/-- R22, R118: the command side has made its request. -/
def Heard (s : State) : Prop := wantsCommand s = true → s.engine.cmdReq = true

/-- R23: a FREE engine has no request to decide. -/
def Decided (s : State) : Prop := engineFree s = true → s.engine.postReq = false ∧ s.engine.cmdReq = false

/-- The core at rest but for a sequencer without a command, which need not have passed on. -/
structure Settled (s : State) : Prop extends CoreSound s where
  heard : Heard s
  decided : Decided s

/-- The part of the invariant that is about the core. -/
structure CoreInv (s : State) : Prop where
  sound : Sound s
  requests : RequestSound s
  rest : restSound s = true

theorem handSound_empty {s : State} (h : handSound s = true) (he : hasCommand s = false) : s.batch.member = false := by
  unfold handSound at h
  unfold hasCommand inHand at he
  split at h <;> simp_all

theorem CoreInv.settled {s : State} (h : CoreInv s) : Settled s := by
  obtain ⟨hs, ⟨hpost, hcmd, hfree⟩, -⟩ := h
  exact ⟨⟨hs.store, hs.undo, hs.batch, fun _ => hs.hand, handSound_empty hs.hand, hs.flight, hs.space, hs.queue, hs.ring,
    hs.sides, hpost, fun hc => hcmd ▸ hc⟩, fun hw => hcmd.trans hw, hfree⟩

theorem restSound_of_hand {s : State} (h : hasCommand s = true) : restSound s = true := by
  unfold hasCommand inHand at h
  unfold restSound
  split <;> simp_all

/-- A settled core is at rest once its sequencer holds a command, or has passed on. -/
theorem Settled.coreInv {s : State} (h : Settled s)
    (hpassed : hasCommand s = false → handSound s = true ∧ restSound s = true) : CoreInv s := by
  have hreq : s.engine.cmdReq = wantsCommand s := by
    cases hw : wantsCommand s with
    | true => exact h.heard hw
    | false =>
      cases hc : s.engine.cmdReq with
      | false => rfl
      | true => exact absurd (h.cmdReq hc) (by rw [hw]; exact Bool.noConfusion)
  have hboth : handSound s = true ∧ restSound s = true := by
    cases hh : hasCommand s with
    | true => exact ⟨h.hand hh, restSound_of_hand hh⟩
    | false => exact hpassed hh
  exact ⟨⟨h.store, h.undo, h.batch, hboth.1, h.flight, h.space, h.queue, h.ring, h.sides⟩,
    ⟨h.postReq, hreq, h.decided⟩, hboth.2⟩

/-- The fields of the core but the channels, whose units and targets only eligibility reads. -/
structure SameCore (s t : State) : Prop where
  entries : t.entries = s.entries := by rfl
  engine : t.engine = s.engine := by rfl
  cmdQueue : t.cmdQueue = s.cmdQueue := by rfl
  seq : t.seq = s.seq := by rfl
  owed : t.owed = s.owed := by rfl
  ring : t.ring = s.ring := by rfl
  batch : t.batch = s.batch := by rfl

theorem SameCore.trans {s t u : State} (h : SameCore s t) (h' : SameCore t u) : SameCore s u :=
  ⟨h'.entries.trans h.entries, h'.engine.trans h.engine, h'.cmdQueue.trans h.cmdQueue, h'.seq.trans h.seq,
    h'.owed.trans h.owed, h'.ring.trans h.ring, h'.batch.trans h.batch⟩

theorem CoreSound.of_same {s t : State} (h : CoreSound s) (e : SameCore s t) (hc : anyEligible t = anyEligible s) :
    CoreSound t := by
  obtain ⟨h1, h2, h3, h4, h5, h6, h7, h8, h9, h10, h11, h12⟩ := h
  cases s
  cases t
  obtain ⟨rfl, rfl, rfl, rfl, rfl, rfl, rfl⟩ := e
  exact ⟨h1, h2, h3, h4, h5, h6, h7, h8, h9, h10, h11.trans hc.symm, h12⟩

theorem Settled.of_same {s t : State} (h : Settled s) (e : SameCore s t) (hc : anyEligible t = anyEligible s) :
    Settled t := by
  refine ⟨h.toCoreSound.of_same e hc, ?_, ?_⟩
  · have hw : wantsCommand t = wantsCommand s := by unfold wantsCommand; rw [e.seq, e.batch, e.engine]
    unfold Heard
    rw [hw, e.engine]
    exact h.heard
  · unfold Decided engineFree
    rw [e.engine]
    exact h.decided

theorem CoreInv.of_same {s t : State} (h : CoreInv s) (e : SameCore s t) (hc : anyEligible t = anyEligible s) :
    CoreInv t := by
  refine (h.settled.of_same e hc).coreInv fun _ => ⟨?_, ?_⟩
  · have hh := h.sound.hand
    unfold handSound at hh ⊢
    rw [e.seq, e.batch, e.entries]
    exact hh
  · have hr := h.rest
    unfold restSound at hr ⊢
    rw [e.seq, e.cmdQueue, e.ring]
    exact hr

/-! #### Eligibility -/

theorem eligible_congr {s t : State} {ch : Fin 8} (hu : t.chans[ch].units = s.chans[ch].units)
    (hg : 0 < s.chans[ch].units → t.chans[ch].record.target = s.chans[ch].record.target)
    (hh : ∀ g, chainHeld t.entries g = chainHeld s.entries g) : eligible t ch = eligible s ch := by
  unfold eligible
  rw [hu]
  by_cases h0 : 0 < s.chans[ch].units
  · rw [hg h0, hh]
  · simp only [decide_eq_false h0, Bool.false_and]

theorem anyEligible_congr {s t : State} (h : ∀ ch, eligible t ch = eligible s ch) : anyEligible t = anyEligible s := by
  unfold anyEligible
  rw [show eligible t = eligible s from funext h]

/-- Nothing that keeps the store and the channels changes who is eligible. -/
theorem anyEligible_of_eq {s t : State} (hentries : t.entries = s.entries := by rfl)
    (hchans : t.chans = s.chans := by rfl) : anyEligible t = anyEligible s :=
  anyEligible_congr fun ch => eligible_congr (by rw [hchans]) (fun _ => by rw [hchans]) fun g => by rw [hentries]

theorem mem_searchOrder : ∀ p ch : Fin 8, ch ∈ searchOrder p := by decide

theorem mem_allChans : ∀ ch : Fin 8, ch ∈ allChans := by decide

/-- R56, R57: the search finds no channel only when none is eligible. -/
theorem anyEligible_of_chooseChan_none {s : State} (h : chooseChan s = none) : anyEligible s = false := by
  unfold chooseChan at h
  rw [List.find?_eq_none] at h
  exact List.any_eq_false.mpr fun ch _ => h ch (mem_searchOrder s.schedPtr ch)

theorem eligible_of_chooseChan {s : State} {ch : Fin 8} (h : chooseChan s = some ch) : eligible s ch = true :=
  List.find?_some h

/-- R55: a channel is eligible when it has units and nothing of its target's chain is held. -/
theorem eligible_iff {s : State} {ch : Fin 8} :
    eligible s ch = true ↔ 0 < s.chans[ch].units ∧ chainHeld s.entries s.chans[ch].record.target = false := by
  simp [eligible]

theorem CoreSound.refresh {s t : State} (h : CoreSound s) (e : SameCore s t) : CoreSound (refreshPostReq t) := by
  obtain ⟨h1, h2, h3, h4, h5, h6, h7, h8, h9, h10, h11, h12⟩ := h
  cases s
  cases t
  obtain ⟨rfl, rfl, rfl, rfl, rfl, rfl, rfl⟩ := e
  exact ⟨h1, h2, h3, h4, h5, h6, h7, h8, h9, h10, rfl, h12⟩

end Sys2Proof.Machine
end

section
/-! ### The arbiter and the unwinder keep the core sound -/

namespace Sys2Proof.Machine

open Sys2Proof.Safety

set_option Elab.async false

/-! #### Grants -/

/-- R9: the committed values come from the store and the undo stack. -/
theorem committed_congr {s t : State} (hentries : t.entries = s.entries) (hundo : t.batch.undo = s.batch.undo)
    (i : Fin 32) : committed t i = committed s i := by
  unfold committed
  rw [hentries, hundo]

/-- A core with the same store and batch unit. -/
theorem CoreSound.of_store {s t : State} (h : CoreSound s) (entries : t.entries = s.entries)
    (queue : QueueSound t.cmdQueue) (batch : t.batch = s.batch)
    (hand : hasCommand t = true → handSound t = true) (empty : hasCommand t = false → t.batch.member = false)
    (flight : flightSound t = true) (space : spaceSound t = true) (ring : RingSound t)
    (postReq : t.engine.postReq = anyEligible t) (cmdReq : t.engine.cmdReq = true → wantsCommand t = true) :
    CoreSound t := by
  refine ⟨?_, ?_, ?_, hand, empty, flight, space, queue, ring, ?_, postReq, cmdReq⟩
  · rw [entries]; exact h.store
  · rw [entries, batch]; exact h.undo
  · unfold BatchSound; rw [batch]; exact h.batch
  · intro i t ht
    rw [entries] at ht ⊢
    rw [committed_congr entries (by rw [batch])]
    exact h.sides i t ht

/-- What an operation's start leaves: the post or command granted is in flight. -/
structure Granted (s t : State) : Prop where
  sound : CoreSound t
  busy : engineFree t = false
  heard : Heard s → Heard t

theorem startPost_inFlight (ch : Fin 8) (s : State) :
    (startPost ch s).engine.inFlight
      = some ⟨.post ch s.chans[ch].record.weight s.chans[ch].record.dir, s.chans[ch].record.target⟩ := rfl

/-- R97: nothing is EXECUTING at a FREE engine. -/
theorem not_executing_of_free {s : State} (h : CoreSound s) (hf : engineFree s = true) : isExecuting s.seq = false := by
  have hfl := h.flight
  rwa [flightSound_free (engineFree_iff.mp hf), Bool.not_eq_true'] at hfl

/-- R57: a post started for an eligible channel at a FREE engine. -/
theorem startPost_granted {s : State} (h : CoreSound s) (hf : engineFree s = true) {ch : Fin 8}
    (he : eligible s ch = true) : Granted s (startPost ch s) := by
  have hexec := not_executing_of_free h hf
  have hin := startPost_inFlight ch s
  have hseq : (startPost ch s).seq = s.seq := rfl
  have hbatch : (startPost ch s).batch = s.batch := rfl
  have hentries : (startPost ch s).entries = s.entries := rfl
  have hwants : wantsCommand (startPost ch s) = wantsCommand s := by
    rw [wantsCommand_eq, wantsCommand_eq, hseq, hbatch, restoring_of_free hf]
    unfold restoring
    rw [hin]
  refine ⟨h.of_store hentries h.queue hbatch h.hand h.empty ?_ (spaceSound_congr h.space hexec hseq hbatch hentries) h.ring
    rfl ?_, ?_, ?_⟩
  · have hunheld := (eligible_iff.mp he).2
    rw [flightSound_post hin, hseq, hexec, hentries, hunheld]
    rfl
  · rw [hwants]
    exact h.cmdReq
  · unfold engineFree
    rw [hin]
    rfl
  · intro hs hw
    exact hs (hwants.symm.trans hw)

theorem grantCommand_restore {s : State} (hp : s.batch.phase = .unwinding) {u : UndoRec} {us : List UndoRec}
    (hu : s.batch.undo = u :: us) :
    grantCommand s = startOp ⟨.restore u.prior, u.index⟩ (setCmdReq false s) := by
  unfold grantCommand setCmdReq
  simp [hp, hu]

theorem grantCommand_waiting {s : State} (hp : s.batch.phase ≠ .unwinding) {r : CmdRec} (hs : s.seq = .waiting r)
    {x : Operation} (hx : (opcodeOf r.code).bind (fun op => arithOp op r.ops s.entries) = some x) :
    grantCommand s = startOp x ((setCmdReq false s).withSeq (.executing r)) := by
  unfold grantCommand setCmdReq
  simp [hp, hs, hx]

/-- R27: the operation of an arithmetic command is on the command's target. -/
theorem arithOp_spec {op : Opcode} {o : Operands} {es : Vector Entry 32} {x : Operation}
    (h : arithOp op o es = some x) : x.kind.isArith = true ∧ x.target = o.target := by
  cases op <;> cases h <;> exact ⟨rfl, rfl⟩

/-- R97, R113: what holds of a WAITING command. -/
theorem handSound_waiting {s : State} {r : CmdRec} (hs : s.seq = .waiting r) :
    handSound s = true ↔ (∃ x, (opcodeOf r.code).bind (fun op => arithOp op r.ops s.entries) = some x)
      ∧ ((s.batch.phase = .none ∧ s.batch.member = false) ∨ (s.batch.phase = .opened ∧ s.batch.member = true)) := by
  unfold handSound
  rw [hs]
  simp [Option.isSome_iff_exists]

theorem handSound_executing {s : State} {r : CmdRec} (hs : s.seq = .executing r) :
    handSound s = true ↔ s.batch.phase ≠ .void ∧ (s.batch.member = true ↔ s.batch.phase ≠ .none) := by
  unfold handSound
  rw [hs]
  cases s.batch.member <;> simp

theorem handSound_unwinding {s : State} {a : Option CmdRec} (hs : s.seq = .unwinding a) :
    handSound s = true ↔ s.batch.phase = .unwinding ∧ s.batch.member = false := by
  unfold handSound
  rw [hs]
  simp

theorem hasCommand_waiting {s : State} {r : CmdRec} (hs : s.seq = .waiting r) : hasCommand s = true := by
  simp [hasCommand, inHand, hs]

theorem hasCommand_executing {s : State} {r : CmdRec} (hs : s.seq = .executing r) : hasCommand s = true := by
  simp [hasCommand, inHand, hs]

/-- R118: the unwinder's restore granted. -/
theorem grantRestore_granted {s : State} (h : CoreSound s) (hf : engineFree s = true) (hp : s.batch.phase = .unwinding)
    (hw : isWaiting s.seq = false) {u : UndoRec} {us : List UndoRec} (hu : s.batch.undo = u :: us) :
    Granted s (startOp ⟨.restore u.prior, u.index⟩ (setCmdReq false s)) := by
  have hexec := not_executing_of_free h hf
  refine ⟨h.of_store rfl h.queue rfl h.hand h.empty ?_ (spaceSound_congr h.space hexec rfl rfl rfl) h.ring h.postReq
    (fun hx => nomatch hx), rfl, fun _ hx => ?_⟩
  · rw [flightSound_restore rfl]
    change (s.batch.phase == .unwinding && s.batch.undo.head? == some ⟨u.index, u.prior⟩ && !isExecuting s.seq) = true
    rw [hp, hu, hexec]
    simp
  · have hquiet : wantsCommand (startOp ⟨.restore u.prior, u.index⟩ (setCmdReq false s))
        = (isWaiting s.seq || (_ && !true)) := wantsCommand_eq _
    rw [hquiet, hw] at hx
    simp at hx

/-- R97: the waiting command granted: it becomes EXECUTING with its operation in flight. -/
theorem grantWaiting_granted {s : State} (h : CoreSound s) {r : CmdRec} (hr : s.seq = .waiting r) {x : Operation}
    (hx : (opcodeOf r.code).bind (fun op => arithOp op r.ops s.entries) = some x) :
    Granted s (startOp x ((setCmdReq false s).withSeq (.executing r))) := by
  obtain ⟨op, -, hop⟩ := Option.bind_eq_some_iff.mp hx
  obtain ⟨hk, ht⟩ := arithOp_spec hop
  obtain ⟨-, hphase⟩ := (handSound_waiting hr).mp (h.hand (hasCommand_waiting hr))
  refine ⟨h.of_store rfl h.queue rfl (fun _ => ?_) (fun hn => nomatch hn) (flightSound_arith rfl hk) ?_ ?_ h.postReq
    (fun hn => nomatch hn), rfl, fun _ hw => ?_⟩
  · refine (handSound_executing rfl).mpr ?_
    change s.batch.phase ≠ .void ∧ (s.batch.member = true ↔ s.batch.phase ≠ .none)
    rcases hphase with ⟨hp, hm⟩ | ⟨hp, hm⟩ <;> rw [hp, hm] <;> simp
  · have hsp := h.space
    rw [spaceSound_waiting hr] at hsp
    rw [spaceSound_executing rfl rfl, ht]
    exact hsp
  · have hring := h.ring
    exact ⟨hring.1, fun _ howed => hring.2 (hasCommand_waiting hr) howed⟩
  · have hquiet : wantsCommand (startOp x ((setCmdReq false s).withSeq (.executing r)))
        = (false || (s.batch.phase == .unwinding && _ && _ && _)) := wantsCommand_eq _
    rcases hphase with ⟨hp, -⟩ | ⟨hp, -⟩ <;> rw [hquiet, hp] at hw <;> simp at hw

/-- R26: the command side granted at a FREE engine: the unwinder's restore, or the waiting command. -/
theorem grantCommand_granted {s : State} (h : CoreSound s) (hf : engineFree s = true) (hc : s.engine.cmdReq = true) :
    Granted s (grantCommand s) := by
  have hw := h.cmdReq hc
  rw [wantsCommand_eq] at hw
  cases hq : isWaiting s.seq with
  | true =>
    obtain ⟨r, hr⟩ := waiting_of_isWaiting hq
    obtain ⟨⟨x, hx⟩, hphase⟩ := (handSound_waiting hr).mp (h.hand (hasCommand_waiting hr))
    have hp : s.batch.phase ≠ .unwinding := by rcases hphase with ⟨hp, -⟩ | ⟨hp, -⟩ <;> rw [hp] <;> exact nofun
    rw [grantCommand_waiting hp hr hx]
    exact grantWaiting_granted h hr hx
  | false =>
    rw [hq] at hw
    simp only [Bool.false_or, Bool.and_eq_true, beq_iff_eq] at hw
    obtain ⟨⟨⟨hp, -⟩, hne⟩, -⟩ := hw
    cases hu : s.batch.undo with
    | nil => rw [hu] at hne; cases hne
    | cons u us =>
      rw [grantCommand_restore hp hu]
      exact grantRestore_granted h hf hp hq hu

/-- R25: the post side granted at a FREE engine, whose request some channel stands behind. -/
theorem grantPost_granted {s : State} (h : CoreSound s) (hf : engineFree s = true) (hp : s.engine.postReq = true) :
    Granted s (grantPost s) := by
  unfold grantPost
  cases hc : chooseChan s with
  | some ch => exact startPost_granted h hf (eligible_of_chooseChan hc)
  | none =>
    rw [h.postReq, anyEligible_of_chooseChan_none hc] at hp
    cases hp

/-- R24: the arbiter at a FREE engine decides every request. -/
theorem arbitrate_settles {s : State} (h : CoreSound s) (hf : engineFree s = true) :
    CoreSound (arbitrate s) ∧ Decided (arbitrate s) ∧ (Heard s → Heard (arbitrate s)) := by
  have of_granted : ∀ {t}, Granted s t → CoreSound t ∧ Decided t ∧ (Heard s → Heard t) := fun hg =>
    ⟨hg.sound, fun hfree => (by rw [hg.busy] at hfree; cases hfree), hg.heard⟩
  unfold arbitrate
  split
  · exact ⟨h, fun _ => ⟨‹_›, ‹_›⟩, id⟩
  · exact of_granted (grantPost_granted h hf ‹_›)
  · exact of_granted (grantCommand_granted h hf ‹_›)
  · split
    · exact of_granted (grantCommand_granted h hf ‹_›)
    · exact of_granted (grantPost_granted h hf ‹_›)

/-- R23: requests that arrive at a sound core are decided, or wait at a busy engine. -/
theorem arrive_settled {s : State} (h : CoreSound s) (hh : Heard s) : Settled (arrive s) := by
  cases hf : engineFree s with
  | true =>
    obtain ⟨h1, h2, h3⟩ := arbitrate_settles h hf
    rw [arrive_free s hf]
    exact ⟨h1, h3 hh, h2⟩
  | false =>
    rw [arrive_busy s hf]
    exact ⟨h, hh, fun hfree => (by rw [hf] at hfree; cases hfree)⟩

/-! #### What the arbiter does to the sequencer -/

/-- The sequencer is the same, or its command has gone from WAITING to EXECUTING. -/
def SeqKept (s t : State) : Prop := t.seq = s.seq ∨ ∃ r, s.seq = .waiting r ∧ t.seq = .executing r

theorem SeqKept.hasCommand {s t : State} (h : SeqKept s t) : hasCommand t = hasCommand s := by
  unfold Machine.hasCommand
  rcases h with h | ⟨r, h, h'⟩
  · rw [h]
  · rw [h, h']
    rfl

theorem SeqKept.empty {s t : State} (h : SeqKept s t) (he : Machine.hasCommand s = false) : t.seq = s.seq := by
  rcases h with h | ⟨r, h, -⟩
  · exact h
  · rw [hasCommand_waiting h] at he
    cases he

theorem grantCommand_seqKept (s : State) : SeqKept s (grantCommand s) := by
  unfold grantCommand
  dsimp only
  split
  · split <;> exact .inl rfl
  · split
    · split
      · exact .inr ⟨_, ‹_›, rfl⟩
      · exact .inl rfl
    · exact .inl rfl

theorem grantPost_seqKept (s : State) : SeqKept s (grantPost s) := by
  unfold grantPost
  split
  · exact .inl rfl
  · dsimp only
    split
    · exact grantCommand_seqKept (setPostReq false s)
    · exact .inl rfl

theorem arbitrate_seqKept (s : State) : SeqKept s (arbitrate s) := by
  unfold arbitrate
  split
  · exact .inl rfl
  · exact grantPost_seqKept s
  · exact grantCommand_seqKept s
  · split
    · exact grantCommand_seqKept s
    · exact grantPost_seqKept s

theorem arrive_seqKept (s : State) : SeqKept s (arrive s) := by
  unfold arrive
  split
  · exact arbitrate_seqKept s
  · exact .inl rfl

/-! #### Requests that arrive at rest -/

/-- R99: a sequencer without a command is UNWINDING exactly while the batch is, and no member is in flight. -/
theorem handSound_of_empty {s : State} (he : hasCommand s = false) :
    handSound s = true ↔ s.batch.member = false ∧ (s.seq = .unwinding none ↔ s.batch.phase = .unwinding) := by
  unfold hasCommand inHand at he
  unfold handSound
  cases hs : s.seq with
  | idle => simp [and_comm]
  | stalled => simp [and_comm]
  | waiting r => simp [hs] at he
  | executing r => simp [hs] at he
  | unwinding a =>
    have ha : a = none := by simpa [hs] using he
    simp [ha, and_comm]

/-- A settled successor that has left the batch unit, the queues and the hand alone is at rest again. -/
theorem CoreInv.of_settled {s t : State} (h : CoreInv s) (ht : Settled t) (batch : t.batch = s.batch)
    (cmdQueue : t.cmdQueue = s.cmdQueue) (ring : t.ring = s.ring) (seq : SeqKept s t) : CoreInv t := by
  refine ht.coreInv fun he => ?_
  rw [seq.hasCommand] at he
  have hseq := seq.empty he
  have hh := (handSound_of_empty he).mp h.sound.hand
  have hr := h.rest
  unfold restSound at hr ⊢
  rw [handSound_of_empty (seq.hasCommand.trans he), hseq, batch, cmdQueue, ring]
  exact ⟨hh, hr⟩

theorem schedule_settled {s t : State} (h : Settled s) (e : SameCore s t) : Settled (schedule t) := by
  refine arrive_settled (h.toCoreSound.refresh e) fun hw => ?_
  have hw' : wantsCommand (refreshPostReq t) = wantsCommand s := by
    unfold wantsCommand
    rw [refreshPostReq_eq]
    simp only
    rw [e.seq, e.batch, e.engine]
  rw [hw'] at hw
  rw [refreshPostReq_eq]
  simp only
  rw [e.engine]
  exact h.heard hw

end Sys2Proof.Machine
end

section
/-! ### The takes keep the core sound -/

namespace Sys2Proof.Machine

open Sys2Proof.Safety

set_option Elab.async false

/-! #### Sequencers without a command -/

/-- R113: the batch unit while no command of the batch is in flight. -/
theorem batchSound_plain {s : State} (hm : s.batch.member = false) (hd : s.batch.deferred = false)
    (hundo : s.batch.phase = .none ∨ s.batch.phase = .void → s.batch.undo = [])
    (htimer : s.batch.timer.isSome = true → s.batch.phase = .opened) : BatchSound s :=
  ⟨hundo, htimer, fun h => absurd h (by rw [hd]; exact Bool.noConfusion),
    fun h => absurd h (by rw [hm]; exact Bool.noConfusion)⟩

theorem CoreSound.deferred_of_empty {s : State} (h : CoreSound s) (he : hasCommand s = false) :
    s.batch.deferred = false := by
  obtain ⟨-, -, hdef, -⟩ := h.batch
  cases hx : s.batch.deferred with
  | false => rfl
  | true => exact absurd (hdef hx).1 (by rw [h.empty he]; exact Bool.noConfusion)

theorem wantsCommand_of_empty {s : State} (he : hasCommand s = false)
    (h : s.batch.phase ≠ .unwinding ∨ s.batch.undo = []) : wantsCommand s = false := by
  rw [wantsCommand_eq, isWaiting_of_empty he]
  rcases h with h | h
  · simp [h]
  · simp [h]

/-- R22: a sequencer without a command has no request, but for the unwinder's. -/
theorem CoreSound.cmdReq_of_empty {s : State} (h : CoreSound s) (he : hasCommand s = false)
    (hu : s.batch.phase ≠ .unwinding ∨ s.batch.undo = []) : s.engine.cmdReq = false := by
  cases hc : s.engine.cmdReq with
  | false => rfl
  | true => exact absurd (h.cmdReq hc) (by rw [wantsCommand_of_empty he hu]; exact Bool.noConfusion)

theorem CoreSound.not_restoring {s : State} (h : CoreSound s) (hu : s.batch.phase ≠ .unwinding ∨ s.batch.undo = []) :
    restoring s = false := by
  cases hr : restoring s with
  | false => rfl
  | true =>
    obtain ⟨hp, hne, -⟩ := flightSound_restoring h.flight hr
    rcases hu with hu | hu
    · exact absurd hp hu
    · exact absurd hu hne

theorem spaceSound_of_empty {s : State} (he : hasCommand s = false) : spaceSound s = true :=
  spaceSound_idle (isWaiting_of_empty he) (isExecuting_of_empty he)

theorem ringSound_of_empty {s : State} (he : hasCommand s = false) (h : s.ring.length ≤ 16) : RingSound s :=
  ⟨h, fun hc => by rw [he] at hc; cases hc⟩

/-- The sequencer's own state may be any that holds no command. -/
theorem Settled.withSeq {s : State} (h : Settled s) (he : hasCommand s = false) {q : SeqState} (hq : inHand q = none) :
    Settled (s.withSeq q) := by
  have he' : hasCommand (s.withSeq q) = false := by simp [hasCommand, hq]
  have hw : wantsCommand (s.withSeq q) = wantsCommand s := by
    rw [wantsCommand_eq, wantsCommand_eq, isWaiting_of_empty he, isWaiting_of_empty he']
    rfl
  have hflight : flightSound (s.withSeq q) = flightSound s := by
    have hx : isExecuting (s.withSeq q).seq = isExecuting s.seq :=
      (isExecuting_of_empty he').trans (isExecuting_of_empty he).symm
    unfold flightSound
    rw [hx]
    rfl
  refine ⟨h.of_store rfl h.queue rfl (fun hc => by rw [he'] at hc; cases hc) (fun _ => h.empty he) (hflight.trans h.flight)
    (spaceSound_of_empty he') (ringSound_of_empty he' h.ring.1) h.postReq ?_, ?_, h.decided⟩
  · rw [hw]; exact h.cmdReq
  · intro hx; rw [hw] at hx; exact h.heard hx

/-- The batch unit may change its phase while no command is in hand, nothing is restored and no request is made. -/
theorem CoreSound.withBatch {s : State} (h : CoreSound s) (he : hasCommand s = false) (hr : restoring s = false)
    (hc : s.engine.cmdReq = false) {b : Batch} (hundo : b.undo = s.batch.undo) (hm : b.member = false)
    (hb : BatchSound (s.withBatch b)) : CoreSound (s.withBatch b) := by
  refine ⟨h.store, ?_, hb, fun hh => ?_, fun _ => hm, flightSound_congr h.flight hr rfl (fun _ => rfl) rfl,
    spaceSound_of_empty he, h.queue, h.ring, ?_, h.postReq, fun hx => ?_⟩
  · rw [State.withBatch_batch, hundo]; exact h.undo
  · exact absurd hh (by rw [show hasCommand (s.withBatch b) = false from he]; exact Bool.noConfusion)
  · intro i t ht
    have hsame := committed_congr (s := s) (t := s.withBatch b) rfl hundo i
    exact (h.sides i t ht).trans (congrArg (sideOf t) hsame.symm)
  · rw [State.withBatch_engine, hc] at hx
    cases hx

theorem Settled.withBatch {s : State} (h : CoreSound s) (hd : Decided s) (he : hasCommand s = false)
    (hr : restoring s = false) (hc : s.engine.cmdReq = false) {b : Batch} (hundo : b.undo = s.batch.undo)
    (hm : b.member = false) (hb : BatchSound (s.withBatch b)) (hp : b.phase ≠ .unwinding) :
    Settled (s.withBatch b) := by
  refine ⟨h.withBatch he hr hc hundo hm hb, fun hw => ?_, hd⟩
  rw [wantsCommand_of_empty (s := s.withBatch b) he (.inl hp)] at hw
  cases hw

/-! #### The unwinder -/

theorem endPhase_cases (c : UnwindCause) : endPhase c = .none ∨ endPhase c = .void := by
  cases c
  · exact .inl rfl
  · exact .inr rfl
  · exact .inl rfl

/-- R119: an unwinding with nothing to restore ends. -/
theorem endUnwind_settled {s : State} (h : CoreSound s) (hd : Decided s) (hp : s.batch.phase = .unwinding)
    (hu : s.batch.undo = []) (he : hasCommand s = false) : Settled (endUnwind s) := by
  have hm := h.empty he
  obtain ⟨-, htimer, -, -⟩ := h.batch
  have hend : endPhase s.batch.cause ≠ .unwinding := by
    rcases endPhase_cases s.batch.cause with h | h <;> rw [h] <;> exact nofun
  refine Settled.withBatch h hd he (h.not_restoring (.inr hu)) (h.cmdReq_of_empty he (.inr hu)) rfl hm
    (batchSound_plain hm (h.deferred_of_empty he) (fun _ => hu) fun ht => ?_) hend
  have := htimer ht
  rw [hp] at this
  cases this

/-- R118, R119: the unwinder asks for the newest record's restore, or ends. -/
theorem beginUnwind_settled {s : State} (h : CoreSound s) (hd : Decided s) (hp : s.batch.phase = .unwinding)
    (hm : s.batch.member = false) (hr : restoring s = false) (he : s.batch.undo = [] → hasCommand s = false) :
    Settled (beginUnwind s) := by
  rcases beginUnwind_cases s with ⟨hu, heq⟩ | ⟨hu, heq⟩ <;> rw [heq]
  · exact endUnwind_settled h hd hp hu (he hu)
  · have hw : wantsCommand s = true := by
      rw [wantsCommand_eq, hp, hm, hr]
      simp [hu]
    exact arrive_settled (h.of_store rfl h.queue rfl h.hand h.empty h.flight h.space h.ring h.postReq fun _ => hw)
      fun _ => rfl

/-! #### A take -/

/-- R96: the sequencer takes a record: it holds no command, the batch does not unwind, and the ring has room. -/
structure Taking (s : State) : Prop extends Settled s where
  free : hasCommand s = false
  phase : s.batch.phase ≠ .unwinding
  room : s.ring.length < 16

namespace Taking

variable {s : State} (h : Taking s)

include h

theorem member : s.batch.member = false := h.empty h.free

theorem deferred : s.batch.deferred = false := h.toCoreSound.deferred_of_empty h.free

theorem cmdReq_eq : s.engine.cmdReq = false := h.toCoreSound.cmdReq_of_empty h.free (.inl h.phase)

theorem not_restoring : restoring s = false := h.toCoreSound.not_restoring (.inl h.phase)

/-- R76, R97: a completion record takes the place that the ring has for it. -/
theorem complete (op : Opcode) (o : Operands) (st : Status) : Settled (complete op o st s) := by
  have hlen : (s.ring ++ [(⟨o.tag, opcodeByte op, st, s.flags⟩ : Completion)]).length ≤ 16 := by
    have := h.room
    simp
    omega
  exact ⟨h.of_store rfl h.queue rfl h.hand h.empty h.flight h.space (ringSound_of_empty h.free hlen) h.postReq h.cmdReq,
    h.heard, h.decided⟩

/-- What does not reach the core leaves the sequencer as ready to take. -/
theorem of_same {t : State} (e : SameCore s t) (hc : anyEligible t = anyEligible s) : Taking t := by
  refine ⟨h.toSettled.of_same e hc, ?_, ?_, ?_⟩
  · have hf := h.free
    unfold hasCommand at hf ⊢
    rw [e.seq]
    exact hf
  · rw [e.batch]; exact h.phase
  · rw [e.ring]; exact h.room

/-- A new phase in which the batch does not unwind. -/
theorem withBatch {b : Batch} (hundo : b.undo = s.batch.undo) (hm : b.member = false) (hp : b.phase ≠ .unwinding)
    (hb : BatchSound (s.withBatch b)) : Taking (s.withBatch b) :=
  ⟨Settled.withBatch h.toCoreSound h.decided h.free h.not_restoring h.cmdReq_eq hundo hm hb hp, h.free, hp, h.room⟩

/-- R71, R123. -/
theorem closeVoid (hp : s.batch.phase = .void) : Taking (closeVoid s) := by
  obtain ⟨hnil, htimer, -, -⟩ := h.batch
  refine h.withBatch rfl h.member nofun (batchSound_plain h.member h.deferred (fun _ => hnil (.inr hp)) fun ht => ?_)
  have := htimer ht
  rw [hp] at this
  cases this

/-- R72: a command that runs in a batch state in which it is not void finds it NONE or OPEN. -/
theorem none_of_not_opened (hv : s.batch.phase ≠ .void) (ho : s.batch.phase ≠ .opened) : s.batch.phase = .none := by
  have := h.phase
  cases hp : s.batch.phase <;> simp_all

theorem undo_nil (hp : s.batch.phase = .none) : s.batch.undo = [] := h.batch.1 (.inl hp)

/-- R111: outside a batch nothing is held. -/
theorem unheld (hp : s.batch.phase = .none) (i : Fin 32) : s.entries[i].held = false := by
  obtain ⟨-, -, hheld, -⟩ := h.undo
  rw [h.undo_nil hp] at hheld
  cases hx : s.entries[i].held with
  | false => rfl
  | true => exact absurd ((hheld i).mp hx) List.not_mem_nil

end Taking

end Sys2Proof.Machine
end

section
/-! ### The bodies of the takes, and the sequencer's passing on -/

namespace Sys2Proof.Machine

open Sys2Proof.Safety

set_option Elab.async false

/-! #### What leaves the core alone -/

theorem appendEvent_sameCore (b : EventBody) (s : State) : SameCore s (appendEvent b s) := by
  obtain ⟨q, f, h⟩ := appendEvent_eq b s
  rw [h]
  exact {}

theorem appendEvent_chans (b : EventBody) (s : State) : (appendEvent b s).chans = s.chans := by
  obtain ⟨q, f, h⟩ := appendEvent_eq b s
  rw [h]
  rfl

/-- R144: appending events touches the event queue, EVT and the count of free choices. -/
theorem appendThreads_eq (threads : List (List EventBody)) (s : State) :
    ∃ q f n, appendThreads threads s = ((s.withEvents q).withIrqFlag f).withFreeCount n := by
  refine runThreads_keeps appendEvent (fun t => ∃ q f n, t = ((s.withEvents q).withIrqFlag f).withFreeCount n)
    ?_ ?_ threads s ⟨s.events, s.window.irqFlag, s.freeCount, rfl⟩
  · rintro b t ⟨q, f, n, rfl⟩
    obtain ⟨q', f', h⟩ := appendEvent_eq b (((s.withEvents q).withIrqFlag f).withFreeCount n)
    exact ⟨q', f', n, h⟩
  · rintro t m ⟨q, f, n, rfl⟩
    exact ⟨q, f, m, rfl⟩

theorem appendThreads_sameCore (threads : List (List EventBody)) (s : State) :
    SameCore s (appendThreads threads s) := by
  obtain ⟨q, f, n, h⟩ := appendThreads_eq threads s
  rw [h]
  exact {}

theorem appendThreads_chans (threads : List (List EventBody)) (s : State) :
    (appendThreads threads s).chans = s.chans := by
  obtain ⟨q, f, n, h⟩ := appendThreads_eq threads s
  rw [h]
  rfl

theorem appendJob_sameCore (j : Job) (s : State) : SameCore s (appendJob j s) ∧ (appendJob j s).chans = s.chans := by
  rw [appendJob_eq]
  exact ⟨{}, rfl⟩

/-! #### Stores in which nothing is held -/

theorem chainHeld_of_unheld {es : Vector Entry 32} (h : ∀ i : Fin 32, es[i].held = false) (g : Fin 32) :
    chainHeld es g = false := by
  unfold chainHeld
  rw [List.any_eq_false]
  intro j _
  rw [h j]
  exact Bool.noConfusion

/-- R9: a value that is not held is committed. -/
theorem committed_of_unheld {s : State} {i : Fin 32} (h : s.entries[i].held = false) :
    committed s i = s.entries[i].value := by
  unfold committed
  rw [h]
  rfl

theorem undoSound_nil {es : Vector Entry 32} (h : ∀ i : Fin 32, es[i].held = false) : UndoSound es [] :=
  ⟨Nat.zero_le _, List.nodup_nil, fun i => by rw [h i]; simp, fun u hu => by cases hu⟩

/-- A core whose store is replaced by one in which nothing is held, while no command is in hand and no restore is in
flight. Only what the post in flight writes could be held, and that was not held before. -/
theorem CoreSound.unheld {s t : State} (h : CoreSound s) (he : hasCommand s = false) (hr : restoring s = false)
    (hc : s.engine.cmdReq = false) (inFlight : t.engine.inFlight = s.engine.inFlight)
    (cmdReq : t.engine.cmdReq = s.engine.cmdReq) (seq : t.seq = s.seq) (cmdQueue : t.cmdQueue = s.cmdQueue)
    (ring : t.ring = s.ring) (undo : t.batch.undo = []) (member : t.batch.member = false) (batch : BatchSound t)
    (store : StoreSound t.entries) (held : ∀ i : Fin 32, t.entries[i].held = false)
    (sides : ∀ i : Fin 32, ∀ x ∈ t.entries[i].threshold, t.entries[i].side = sideOf x t.entries[i].value)
    (postReq : t.engine.postReq = anyEligible t) : CoreSound t := by
  have he' : hasCommand t = false := by unfold hasCommand at he ⊢; rw [seq]; exact he
  refine ⟨store, ?_, batch, fun hh => ?_, fun _ => member, ?_, spaceSound_of_empty he', ?_,
    ringSound_of_empty he' ?_, fun i x hx => ?_, postReq, fun hx => ?_⟩
  · rw [undo]; exact undoSound_nil held
  · rw [he'] at hh; cases hh
  · have hf := h.flight
    unfold flightSound restoring at *
    rw [inFlight, seq]
    split at hf
    · exact hf
    · simp only [Bool.and_eq_true, Bool.not_eq_true'] at hf ⊢
      exact ⟨chainHeld_of_unheld held _, hf.2⟩
    · rename_i hx; rw [hx] at hr; cases hr
    · exact hf
  · rw [cmdQueue]; exact h.queue
  · rw [ring]; exact h.ring.1
  · rw [committed_of_unheld (held i)]; exact sides i x hx
  · rw [cmdReq, hc] at hx; cases hx

/-- R83, R84: outside a batch an entry may be replaced by a sound one that is not held. -/
theorem Taking.replaceEntry {s : State} (h : Taking s) (hp : s.batch.phase = .none) (i : Fin 32) {e : Entry}
    (he : EntrySound i e) (hheld : e.held = false)
    (hside : ∀ x ∈ e.threshold, e.side = sideOf x e.value) : Taking (s.withEntries (setEntry s.entries i e)) := by
  have hstore : StoreSound (setEntry s.entries i e) := fun k => by
    by_cases hk : k = i
    · subst hk; rw [setEntry_get_self]; exact he
    · rw [setEntry_get_ne _ _ hk]; exact h.store k
  have hunheld : ∀ k : Fin 32, (setEntry s.entries i e)[k].held = false := fun k => by
    by_cases hk : k = i
    · subst hk; rw [setEntry_get_self]; exact hheld
    · rw [setEntry_get_ne _ _ hk]; exact h.unheld hp k
  have hsides : ∀ k : Fin 32, ∀ x ∈ (setEntry s.entries i e)[k].threshold,
      (setEntry s.entries i e)[k].side = sideOf x (setEntry s.entries i e)[k].value := fun k x hx => by
    by_cases hk : k = i
    · subst hk; rw [setEntry_get_self] at hx ⊢; exact hside x hx
    · rw [setEntry_get_ne _ _ hk] at hx ⊢
      rw [h.sides k x hx, committed_of_unheld (h.unheld hp k)]
  have helig : anyEligible (s.withEntries (setEntry s.entries i e)) = anyEligible s :=
    anyEligible_congr fun ch => eligible_congr rfl (fun _ => rfl) fun g =>
      (chainHeld_of_unheld hunheld g).trans (chainHeld_of_unheld (h.unheld hp) g).symm
  refine ⟨⟨h.toCoreSound.unheld h.free h.not_restoring h.cmdReq_eq rfl rfl rfl rfl rfl (h.undo_nil hp) h.member h.batch
    hstore hunheld hsides (h.postReq.trans helig.symm), h.heard, h.decided⟩, h.free, h.phase, h.room⟩

/-! #### Arithmetic commands -/

theorem opcodeOf_opcodeByte (op : Opcode) : opcodeOf (opcodeByte op) = some op := by
  cases op <;> rfl

/-- The six arithmetic commands have an operation. -/
theorem arithOp_isSome {op : Opcode} (h : isArith op = true) (o : Operands) (es : Vector Entry 32) :
    ∃ x, (opcodeOf (opcodeByte op)).bind (fun op => arithOp op o es) = some x := by
  rw [opcodeOf_opcodeByte]
  cases op with
  | add | sub | move | negate | clear | compare => exact ⟨_, rfl⟩
  | _ => cases h

/-- R97, R113: the command side's request made for a command that belongs to the batch exactly while one is open. -/
theorem Taking.requestEngine {s : State} (h : Taking s) {op : Opcode} (hop : isArith op = true) (o : Operands) {m : Bool}
    (hm : (s.batch.phase = .none ∧ m = false)
      ∨ (s.batch.phase = .opened ∧ m = true ∧ undoShort s o.target = false)) :
    Settled (requestEngine op o (s.withBatch { s.batch with member := m })) := by
  obtain ⟨hnil, htimer, -, -⟩ := h.batch
  have hbatch : ∀ t : State, t.batch = { s.batch with member := m } → BatchSound t := fun t ht => by
    unfold BatchSound
    rw [ht]
    refine ⟨hnil, htimer, fun hx => ?_, fun hx => ?_⟩
    · exact absurd hx (by rw [h.deferred]; exact Bool.noConfusion)
    · rcases hm with ⟨-, hm⟩ | ⟨hp, -⟩
      · exact absurd hx (by rw [hm]; exact Bool.noConfusion)
      · exact .inl hp
  refine arrive_settled (s := setCmdReq true ((s.withBatch { s.batch with member := m }).withSeq
    (.waiting (recordOf op o)))) ⟨h.store, h.undo, hbatch _ rfl, fun _ => ?_, nofun, ?_, ?_, h.queue,
    ⟨h.ring.1, fun _ _ => h.room⟩, h.sides, h.postReq, fun _ => rfl⟩ fun _ => rfl
  · refine (handSound_waiting rfl).mpr ⟨arithOp_isSome hop o s.entries, ?_⟩
    rcases hm with ⟨hp, hm⟩ | ⟨hp, hm, -⟩
    · exact .inl ⟨hp, hm⟩
    · exact .inr ⟨hp, hm⟩
  · exact flightSound_congr h.flight h.not_restoring rfl (fun _ => rfl) (isExecuting_of_empty h.free).symm
  · rw [spaceSound_waiting rfl]
    change (!m || !undoShort s o.target) = true
    rcases hm with ⟨-, hm⟩ | ⟨-, -, hroom⟩
    · rw [hm]; rfl
    · rw [hroom]; exact Bool.or_true _

/-- R121: a void opened while no command is in hand: the batch unwinds, and the unwinder has yet to ask. -/
theorem openVoid_coreSound {s : State} (h : CoreSound s) (he : hasCommand s = false) (hp : s.batch.phase ≠ .unwinding)
    (d : Byte) : CoreSound (openVoid d s) := by
  have hsame := h.of_same (appendEvent_sameCore ⟨.batchVoid, 0, d⟩ s) (anyEligible_of_eq
    (appendEvent_sameCore _ s).entries (appendEvent_chans _ s))
  have hb := (appendEvent_sameCore ⟨.batchVoid, 0, d⟩ s).batch
  have he' : hasCommand (appendEvent ⟨.batchVoid, 0, d⟩ s) = false := by
    unfold hasCommand at he ⊢
    rw [(appendEvent_sameCore ⟨.batchVoid, 0, d⟩ s).seq]
    exact he
  have hp' : (appendEvent ⟨.batchVoid, 0, d⟩ s).batch.phase ≠ .unwinding := by rw [hb]; exact hp
  exact hsame.withBatch he' (hsame.not_restoring (.inl hp')) (hsame.cmdReq_of_empty he' (.inl hp')) rfl
    (hsame.empty he') (batchSound_plain (hsame.empty he') (hsame.deferred_of_empty he')
      (fun hx => by rcases hx with hx | hx <;> cases hx) fun hx => nomatch hx)

theorem openVoid_phase (d : Byte) (s : State) : (openVoid d s).batch.phase = .unwinding := rfl

theorem openVoid_seq (d : Byte) (s : State) : (openVoid d s).seq = s.seq := (appendEvent_sameCore _ s).seq

theorem openVoid_engine (d : Byte) (s : State) : (openVoid d s).engine = s.engine := (appendEvent_sameCore _ s).engine

theorem openVoid_undo (d : Byte) (s : State) : (openVoid d s).batch.undo = s.batch.undo :=
  have h := congrArg Batch.undo (appendEvent_sameCore ⟨.batchVoid, 0, d⟩ s).batch
  h

theorem openVoid_member (d : Byte) (s : State) : (openVoid d s).batch.member = s.batch.member :=
  have h := congrArg Batch.member (appendEvent_sameCore ⟨.batchVoid, 0, d⟩ s).batch
  h

/-- R121, R125: the void opened and its unwinding begun, with no command in hand. -/
theorem voidBegun_settled {s : State} (h : Settled s) (he : hasCommand s = false) (hp : s.batch.phase ≠ .unwinding)
    (d : Byte) : Settled (beginUnwind (openVoid d s)) := by
  have hr := h.toCoreSound.not_restoring (.inl hp)
  refine beginUnwind_settled (openVoid_coreSound h.toCoreSound he hp d) ?_ (openVoid_phase d s) ?_ ?_ fun _ => ?_
  · unfold Decided engineFree
    rw [openVoid_engine]
    exact h.decided
  · rw [openVoid_member]
    exact h.empty he
  · unfold restoring at hr ⊢
    rw [openVoid_engine]
    exact hr
  · unfold hasCommand at he ⊢
    rw [openVoid_seq]
    exact he

/-- R82, R113, R114: steps 4 and 5 of an arithmetic command. -/
theorem Taking.arithBody {s : State} (h : Taking s) (hv : s.batch.phase ≠ .void) {op : Opcode} (hop : isArith op = true)
    (o : Operands) : Settled (arithBody op o s) := by
  unfold Machine.arithBody
  split
  · rename_i hp
    split
    · exact voidBegun_settled (h.complete op o .undoFull) h.free h.phase 1
    · rename_i hroom
      exact h.requestEngine hop o (.inr ⟨hp, rfl, Bool.eq_false_iff.mpr hroom⟩)
  · rename_i hp
    exact h.requestEngine hop o (m := s.batch.member) (.inl ⟨h.none_of_not_opened hv hp, h.member⟩)

/-! #### Configuration and report commands -/

theorem loNibble_range {o : Operands} (h : operandsOk .setattr o = true) :
    1 ≤ o.attr.width ∧ o.attr.width ≤ 12 := by
  simp only [operandsOk, Bool.and_eq_true, decide_eq_true_eq] at h
  obtain ⟨⟨⟨-, hlow⟩, hhigh⟩, -⟩ := h
  exact ⟨hlow, hhigh⟩

/-- R5: a record is accepted when value and threshold fit it and a link is to a higher entry under WRAP. -/
theorem attrInvalid_eq_false {i : Fin 32} {e : Entry} {a : Attr} : attrInvalid i e a = false ↔
    e.value.mag < 10 ^ a.width ∧ (∀ t ∈ e.threshold, t.value.mag < 10 ^ a.width)
      ∧ ∀ j ∈ a.link, i < j ∧ a.policy = .wrap := by
  have hpolicy : (a.policy == .saturate) = false ↔ a.policy = .wrap := by cases a.policy <;> decide
  unfold attrInvalid
  rw [Bool.or_eq_false_iff, Bool.or_eq_false_iff, and_assoc, decide_eq_false_iff_not, not_le]
  refine and_congr_right fun _ => and_congr ?_ ?_
  · cases e.threshold <;> simp
  · cases a.link with
    | none => simp
    | some j => simp [hpolicy]

/-- R5: a SETATTR that is not refused leaves its entry sound. -/
theorem entrySound_of_attr {i : Fin 32} {e : Entry} {a : Attr} (h : EntrySound i e) (hw : 1 ≤ a.width ∧ a.width ≤ 12)
    (ha : attrInvalid i e a = false) : EntrySound i { e with attr := a } := by
  obtain ⟨hval, -, hthr⟩ := h
  obtain ⟨hv, ht, hl⟩ := attrInvalid_eq_false.mp ha
  exact ⟨⟨hv, hval.2⟩, ⟨hw.1, hw.2, hl⟩, fun x hx => ⟨ht x hx, (hthr x hx).2⟩⟩

theorem Taking.setattrBody {s : State} (h : Taking s) (hp : s.batch.phase = .none) {o : Operands}
    (ho : operandsOk .setattr o = true) : Settled (setattrBody o s) := by
  unfold Machine.setattrBody
  split
  · exact h.complete _ _ _
  · rename_i ha
    refine (h.replaceEntry hp o.target (entrySound_of_attr (h.store _) (loNibble_range ho) (Bool.eq_false_iff.mpr ha))
      (h.unheld hp _) fun x hx => ?_).complete _ _ _
    have hside := h.sides o.target x hx
    rwa [committed_of_unheld (h.unheld hp _)] at hside

/-- R66: an immediate of zero is positive, so it fits when its magnitude does. -/
theorem immediate_of_threshold {o : Operands} {t : Threshold} (h : o.threshold = some t) : t.value = o.immediate := by
  unfold Operands.threshold at h
  split at h <;> cases h <;> rfl

theorem immediate_zero_positive (o : Operands) : o.immediate.mag = 0 → o.immediate.neg = false :=
  Dec.make_zero_positive _ _

theorem Taking.setthreshBody {s : State} (h : Taking s) (hp : s.batch.phase = .none) (o : Operands) :
    Settled (setthreshBody o s) := by
  have hold := h.store o.target
  have hfree := h.unheld hp o.target
  unfold Machine.setthreshBody
  split
  · exact (h.replaceEntry hp o.target (e := { s.entries[o.target] with threshold := none, side := .below })
      ⟨hold.1, hold.2.1, nofun⟩ hfree nofun).complete _ _ _
  · rename_i t ht
    split
    · exact h.complete _ _ _
    · rename_i hfit
      have hcommitted := committed_of_unheld hfree
      have hval := immediate_of_threshold ht
      refine (h.replaceEntry hp o.target (e := { s.entries[o.target] with
        threshold := some t, side := sideOf t (committed s o.target) })
        ⟨hold.1, hold.2.1, fun x hx => ?_⟩ hfree fun x hx => ?_).complete _ _ _
      · obtain rfl : t = x := Option.some.inj hx
        refine ⟨Nat.lt_of_not_le hfit, ?_⟩
        rw [hval]
        exact immediate_zero_positive o
      · obtain rfl : t = x := Option.some.inj hx
        exact congrArg (sideOf t) hcommitted

/-- R52, R53: a CHANCONFIG that is not refused changes nothing that eligibility reads. -/
theorem eligible_applyRecord {s : State} {ch : Fin 8} {r : ChanRecord} (h : chanBusy s.chans[ch] r = false) (k : Fin 8) :
    eligible (s.withChans (setChan s.chans ch (applyRecord s.chans[ch] r))) k = eligible s k := by
  by_cases hk : k = ch
  · subst hk
    have hunits : (applyRecord s.chans[k] r).units = s.chans[k].units := by unfold applyRecord; split <;> rfl
    have hrec : (applyRecord s.chans[k] r).record = r := by unfold applyRecord; split <;> rfl
    refine eligible_congr ?_ (fun hpos => ?_) fun _ => rfl
    · rw [State.withChans_chans, setChan_get_self, hunits]
    · rw [State.withChans_chans, setChan_get_self, hrec]
      unfold chanBusy at h
      rw [decide_eq_true hpos] at h
      simp only [Bool.true_and, Bool.not_eq_false', Bool.and_eq_true, beq_iff_eq] at h
      exact h.1.1
  · refine eligible_congr ?_ (fun _ => ?_) fun _ => rfl
    · rw [State.withChans_chans, setChan_get_ne _ _ hk]
    · rw [State.withChans_chans, setChan_get_ne _ _ hk]

theorem Taking.chanconfigBody {s : State} (h : Taking s) (o : Operands) : Settled (chanconfigBody o s) := by
  unfold Machine.chanconfigBody
  split
  · exact h.complete _ _ _
  · rename_i hb
    exact (h.of_same {} (anyEligible_congr (eligible_applyRecord (Bool.eq_false_iff.mpr hb)))).complete _ _ _

/-- R54: a cleared channel has no units, so it is not eligible. -/
theorem eligible_clearChan {s : State} {ch k : Fin 8}
    (h : eligible (s.withChans (setChan s.chans ch (clearChan s.chans[ch]))) k = true) : eligible s k = true := by
  by_cases hk : k = ch
  · subst hk
    have hpos := (eligible_iff.mp h).1
    rw [State.withChans_chans, setChan_get_self] at hpos
    cases hpos
  · rw [eligible_iff, State.withChans_chans, setChan_get_ne _ _ hk] at h
    exact eligible_iff.mpr h

theorem anyEligible_mono {s t : State} (h : ∀ k, eligible t k = true → eligible s k = true)
    (hs : anyEligible s = false) : anyEligible t = false := by
  unfold anyEligible at *
  rw [List.any_eq_false] at *
  exact fun k hk ht => hs k hk (h k ht)

/-- R54, R56: a cleared channel withdraws from the post side's request; at a FREE engine there was none. -/
theorem Taking.clearChan {s : State} (h : Taking s) (ch : Fin 8) :
    Taking (refreshPostReq (s.withChans (setChan s.chans ch (clearChan s.chans[ch])))) := by
  refine ⟨⟨h.toCoreSound.refresh {}, h.heard, fun hf => ⟨?_, (h.decided hf).2⟩⟩, h.free, h.phase, h.room⟩
  have hnone : anyEligible s = false := h.postReq.symm.trans (h.decided hf).1
  exact anyEligible_mono (fun _ => eligible_clearChan) hnone

theorem Taking.reportBody {s : State} (h : Taking s) (o : Operands) : Settled (reportBody o s) := by
  unfold Machine.reportBody
  split
  · exact h.complete _ _ _
  · obtain ⟨hsame, hchans⟩ := appendJob_sameCore ⟨o.tag, false, o.reportList⟩ s
    exact (h.of_same hsame (anyEligible_of_eq hsame.entries hchans)).complete _ _ _

/-! #### Batch commands -/

theorem Taking.batchOpenBody {s : State} (h : Taking s) (hp : s.batch.phase = .none) (o : Operands) :
    Settled (batchOpenBody o s) :=
  (h.withBatch (b := { s.batch with
      phase := .opened, undo := [], member := false, deferred := false, timer := batchTimerLoad s.batchLimit })
    (h.undo_nil hp).symm rfl nofun (batchSound_plain rfl rfl (fun _ => rfl) fun _ => rfl)).complete _ _ _

end Sys2Proof.Machine
end

section
/-! ### Commits, aborts and the sequencer's passing on -/

namespace Sys2Proof.Machine

open Sys2Proof.Safety

set_option Elab.async false

/-! #### The threshold monitor (R134–R137) -/

/-- R134: an evaluated entry stands on the side of its value. -/
theorem evaluate_side (es : Vector Entry 32) (i : Fin 32) :
    ∀ t ∈ es[i].threshold, (evaluate es i).1[i].side = sideOf t es[i].value := by
  intro t ht
  have ht' : es[i].threshold = some t := ht
  unfold evaluate
  rw [ht']
  dsimp only
  split
  · exact Eq.symm ‹_›
  · rw [setEntry_get_self]

theorem evaluate_get_ne (es : Vector Entry 32) {i j : Fin 32} (h : j ≠ i) : (evaluate es i).1[j] = es[j] := by
  unfold evaluate
  dsimp only
  split
  · rfl
  · split
    · rfl
    · exact setEntry_get_ne _ _ h

/-- R136: an entry that is not evaluated keeps its side. -/
theorem evaluateAll_get_of_not_mem : ∀ (is : List (Fin 32)) (es : Vector Entry 32) (j : Fin 32), j ∉ is →
    (evaluateAll es is).1[j] = es[j]
  | [], _, _, _ => rfl
  | i :: is, es, j, h => by
    obtain ⟨hi, his⟩ := not_or.mp (mt List.mem_cons.mpr h)
    exact (evaluateAll_get_of_not_mem is (evaluate es i).1 j his).trans (evaluate_get_ne es hi)

/-- R136: after an evaluation of several entries each stands on the side of its value. -/
theorem evaluateAll_side : ∀ (is : List (Fin 32)) (es : Vector Entry 32) (i : Fin 32), i ∈ is →
    ∀ t ∈ es[i].threshold, (evaluateAll es is).1[i].side = sideOf t es[i].value
  | k :: is, es, i, h, t, ht => by
    have he := evaluate_entry es k i
    by_cases hmem : i ∈ is
    · have ih := evaluateAll_side is (evaluate es k).1 i hmem t (by rw [he]; exact ht)
      rw [he] at ih
      exact ih
    · obtain rfl : i = k := (List.mem_cons.mp h).resolve_right hmem
      have hk := evaluateAll_get_of_not_mem is (evaluate es i).1 i hmem
      exact (congrArg Entry.side hk).trans (evaluate_side es i t ht)

/-- R137: entries whose sides were right, or which are evaluated, have the right sides afterwards. -/
theorem evaluateAll_sides {es : Vector Entry 32} {is : List (Fin 32)} {i : Fin 32}
    (h : i ∉ is → ∀ t ∈ es[i].threshold, es[i].side = sideOf t es[i].value) :
    ∀ t ∈ (evaluateAll es is).1[i].threshold,
      (evaluateAll es is).1[i].side = sideOf t (evaluateAll es is).1[i].value := by
  have he := evaluateAll_entry is es i
  intro t ht
  rw [evaluateAll_value]
  rw [he] at ht
  by_cases hi : i ∈ is
  · exact evaluateAll_side is es i hi t ht
  · rw [evaluateAll_get_of_not_mem is es i hi]
    exact h hi t ht

theorem evaluateAll_sound {es : Vector Entry 32} (h : StoreSound es) (is : List (Fin 32)) :
    StoreSound (evaluateAll es is).1 := by
  intro i
  rw [evaluateAll_entry is es i]
  exact h i

theorem evaluateAll_held (es : Vector Entry 32) (is : List (Fin 32)) (i : Fin 32) :
    (evaluateAll es is).1[i].held = es[i].held := by
  rw [evaluateAll_entry is es i]

/-! #### COMMIT (R116) -/

theorem closeBatch_entries (s : State) :
    (closeBatch s).entries = clearHeld (evaluateAll s.entries (s.batch.undo.reverse.map fun u => u.index)).1 := by
  unfold closeBatch
  dsimp only
  rw [State.withBatch_entries, State.withEntries_entries, (appendThreads_sameCore _ _).entries,
    State.withEntries_entries]

theorem closeBatch_batch (s : State) :
    (closeBatch s).batch = { s.batch with phase := .none, undo := [], timer := none } := by
  unfold closeBatch
  dsimp only
  rw [State.withBatch_batch, (appendThreads_sameCore _ _).batch, State.withEntries_batch]

/-- R116: what a COMMIT leaves alone. -/
theorem closeBatch_frame (s : State) :
    (closeBatch s).engine = s.engine ∧ (closeBatch s).seq = s.seq ∧ (closeBatch s).cmdQueue = s.cmdQueue
      ∧ (closeBatch s).ring = s.ring := by
  have h := appendThreads_sameCore [(evaluateAll s.entries (s.batch.undo.reverse.map fun u => u.index)).2]
    (s.withEntries (evaluateAll s.entries (s.batch.undo.reverse.map fun u => u.index)).1)
  exact ⟨h.engine, h.seq, h.cmdQueue, h.ring⟩

theorem clearHeld_sound {es : Vector Entry 32} (h : StoreSound es) : StoreSound (clearHeld es) := by
  intro i
  rw [clearHeld_get]
  exact h i

/-- R111, R116: the entries evaluated are those with an undo record, which are those held; so every value is committed. -/
theorem closeBatch_sides {s : State} (hundo : UndoSound s.entries s.batch.undo) (hsides : SidesSound s) (i : Fin 32) :
    ∀ t ∈ (closeBatch s).entries[i].threshold,
      (closeBatch s).entries[i].side = sideOf t (closeBatch s).entries[i].value := by
  obtain ⟨-, -, hheld, -⟩ := hundo
  rw [closeBatch_entries, clearHeld_get]
  refine evaluateAll_sides fun hi t ht => ?_
  have hfree : s.entries[i].held = false := by
    cases hx : s.entries[i].held with
    | false => rfl
    | true => exact absurd (by simpa using (hheld i).mp hx) hi
  rw [hsides i t ht, committed_of_unheld hfree]

/-- R116: the batch closed, with the released channels' request up to date. -/
theorem Taking.closeBatch {s : State} (h : Taking s) : CoreSound (refreshPostReq (closeBatch s)) := by
  obtain ⟨hengine, hseq, hqueue, hring⟩ := closeBatch_frame s
  have hbatch := closeBatch_batch s
  have hflight : (Machine.closeBatch s).engine.inFlight = s.engine.inFlight := by rw [hengine]
  have hcmd : (Machine.closeBatch s).engine.cmdReq = s.engine.cmdReq := by rw [hengine]
  have hundo : (Machine.closeBatch s).batch.undo = [] := by rw [hbatch]
  have hmember : (Machine.closeBatch s).batch.member = false := by rw [hbatch]; exact h.member
  refine h.toCoreSound.unheld h.free h.not_restoring h.cmdReq_eq hflight hcmd hseq hqueue hring hundo hmember ?_ ?_
    (fun i => ?_) (closeBatch_sides h.undo h.sides) rfl
  · unfold BatchSound
    rw [show (refreshPostReq (Machine.closeBatch s)).batch = _ from hbatch]
    exact ⟨fun _ => rfl, nofun, fun hx => absurd hx (by rw [h.deferred]; exact Bool.noConfusion),
      fun hx => absurd hx (by rw [h.member]; exact Bool.noConfusion)⟩
  · rw [show (refreshPostReq (Machine.closeBatch s)).entries = _ from closeBatch_entries s]
    exact clearHeld_sound (evaluateAll_sound h.store _)
  · rw [show (refreshPostReq (Machine.closeBatch s)).entries = _ from closeBatch_entries s, clearHeld_get]

theorem schedule_seqKept (s : State) : SeqKept s (schedule s) := arrive_seqKept (refreshPostReq s)

theorem hasCommand_of_seq {s t : State} (h : t.seq = s.seq) : hasCommand t = hasCommand s := by
  unfold hasCommand
  rw [h]

/-- R116: after a COMMIT the sequencer is as ready to take as before. -/
theorem Taking.commitBatch {s : State} (h : Taking s) : Taking (commitBatch s) := by
  obtain ⟨hengine, hseq, -, hring⟩ := closeBatch_frame s
  have hfree : hasCommand (Machine.closeBatch s) = false := (hasCommand_of_seq hseq).trans h.free
  have hphase : (Machine.closeBatch s).batch.phase = .none := congrArg Batch.phase (closeBatch_batch s)
  have hcommit : (Machine.commitBatch s).batch = (Machine.closeBatch s).batch
      ∧ (Machine.commitBatch s).ring = (Machine.closeBatch s).ring := by
    rw [commitBatch_eq, schedule_eq]
    exact ⟨rfl, rfl⟩
  have hquiet : (Machine.closeBatch s).batch.phase ≠ .unwinding := by rw [hphase]; exact nofun
  have hsettled : Settled (schedule (Machine.closeBatch s)) := arrive_settled h.closeBatch fun hw => by
    rw [wantsCommand_of_empty (s := refreshPostReq (Machine.closeBatch s)) hfree (.inl hquiet)] at hw
    cases hw
  refine ⟨hsettled, ?_, ?_, ?_⟩
  · exact (schedule_seqKept _).hasCommand.trans hfree
  · rw [hcommit.1, hphase]
    exact nofun
  · rw [hcommit.2, hring]
    exact h.room

/-! #### ABORT (R117) -/

theorem Taking.batchAbortBody {s : State} (h : Taking s) (o : Operands) : Settled (batchAbortBody o s) := by
  unfold Machine.batchAbortBody
  split
  · rename_i hu
    have hend : Taking (endUnwind (enterUnwinding .abort s)) :=
      h.withBatch (b := { s.batch with phase := .none, cause := .abort, timer := none }) rfl h.member nofun
        (batchSound_plain h.member h.deferred (fun _ => hu) nofun)
    exact hend.complete _ _ _
  · rename_i u us hu
    have hr := h.not_restoring
    refine beginUnwind_settled ⟨h.store, h.undo, ?_, fun _ => ?_, nofun, flightSound_congr h.flight hr rfl (fun _ => rfl)
      (isExecuting_of_empty h.free).symm, spaceSound_idle rfl rfl, h.queue, ⟨h.ring.1, fun _ _ => h.room⟩, h.sides,
      h.postReq, fun hx => ?_⟩ h.decided rfl h.member hr fun hnil => ?_
    · exact batchSound_plain h.member h.deferred (fun hx => by rcases hx with hx | hx <;> cases hx) nofun
    · exact (handSound_unwinding rfl).mpr ⟨rfl, h.member⟩
    · exact absurd (show s.engine.cmdReq = true from hx) (by rw [h.cmdReq_eq]; exact Bool.noConfusion)
    · rw [show s.batch.undo = [] from hnil] at hu
      cases hu

/-! #### The take -/

/-- R73: the configuration commands and OPEN are refused in an open batch. -/
theorem not_opened_of_classRefusal {op : Opcode} {p : BatchPhase} (h : classRefusal op p = none)
    (hop : isConfig op = true ∨ op = .batchOpen) : p ≠ .opened := by
  rintro rfl
  revert h hop
  cases op <;> simp [classRefusal, isConfig]

/-- Steps 4 and 5 of every command keep the core settled. -/
theorem Taking.takeBody {s : State} (h : Taking s) {op : Opcode} {o : Operands} (ho : operandsOk op o = true)
    (hv : s.batch.phase ≠ .void) (hc : classRefusal op s.batch.phase = none) : Settled (takeBody op o s) := by
  have hopened := not_opened_of_classRefusal hc
  cases op with
  | mark => exact h.complete _ _ _
  | add | sub | move | negate | clear | compare => exact h.arithBody hv rfl o
  | setattr => exact h.setattrBody (h.none_of_not_opened hv (hopened (.inl rfl))) ho
  | setthresh => exact h.setthreshBody (h.none_of_not_opened hv (hopened (.inl rfl))) o
  | chanconfig => exact h.chanconfigBody o
  | chanclear => exact (h.clearChan _).complete _ _ _
  | batchOpen => exact h.batchOpenBody (h.none_of_not_opened hv (hopened (.inr rfl))) o
  | batchCommit => exact h.commitBatch.complete _ _ _
  | batchAbort => exact h.batchAbortBody o
  | report => exact h.reportBody o
  | reportPeriodic =>
    refine Taking.complete ?_ _ _ _
    exact h.of_same {} (anyEligible_of_eq rfl rfl)

/-- R71–R73: a take keeps the core settled. -/
theorem Taking.take {s : State} (h : Taking s) {op : Opcode} {o : Operands} (ho : operandsOk op o = true) :
    Settled (take op o s) := by
  rw [take_eq]
  rcases checked_cases op o (Machine.takeBody op o) s with
    ⟨hv, -, heq⟩ | ⟨-, -, heq⟩ | ⟨-, -, heq⟩ | ⟨st, -, -, -, heq⟩ | ⟨hv, -, hc, heq⟩ <;> rw [heq]
  · exact (h.closeVoid hv).complete _ _ _
  · exact h.complete _ _ _
  · exact h.complete _ _ _
  · exact h.complete _ _ _
  · exact h.takeBody ho hv hc

/-! #### The command queue at a take -/

theorem arrive_cmdQueue (s : State) : (arrive s).cmdQueue = s.cmdQueue := by rw [arrive_eq]

theorem beginUnwind_cmdQueue (s : State) : (beginUnwind s).cmdQueue = s.cmdQueue := by rw [beginUnwind_eq]

theorem openVoid_cmdQueue (d : Byte) (s : State) : (openVoid d s).cmdQueue = s.cmdQueue :=
  (appendEvent_sameCore _ s).cmdQueue

theorem arithBody_cmdQueue (op : Opcode) (o : Operands) (s : State) : (arithBody op o s).cmdQueue = s.cmdQueue := by
  unfold arithBody
  split
  · split
    · unfold refuseUndoFull
      rw [beginUnwind_cmdQueue, openVoid_cmdQueue]
      rfl
    · exact arrive_cmdQueue _
  · exact arrive_cmdQueue _

theorem takeBody_cmdQueue (op : Opcode) (o : Operands) (s : State) : (takeBody op o s).cmdQueue = s.cmdQueue := by
  cases op with
  | mark | chanclear | batchOpen | reportPeriodic => rfl
  | add | sub | move | negate | clear | compare => exact arithBody_cmdQueue _ o s
  | setattr => unfold takeBody setattrBody; dsimp only; split <;> rfl
  | setthresh =>
    unfold takeBody setthreshBody
    dsimp only
    split
    · rfl
    · split <;> rfl
  | chanconfig => unfold takeBody chanconfigBody; dsimp only; split <;> rfl
  | batchCommit =>
    have h : (commitBatch s).cmdQueue = (closeBatch s).cmdQueue := arrive_cmdQueue (refreshPostReq (closeBatch s))
    exact h.trans (closeBatch_frame s).2.2.1
  | batchAbort =>
    unfold takeBody batchAbortBody
    dsimp only
    split
    · rfl
    · exact beginUnwind_cmdQueue _
  | report =>
    unfold takeBody reportBody
    dsimp only
    split
    · rfl
    · exact (appendJob_sameCore _ s).1.cmdQueue

theorem take_cmdQueue (op : Opcode) (o : Operands) (s : State) : (take op o s).cmdQueue = s.cmdQueue := by
  rw [take_eq]
  rcases checked_cases op o (takeBody op o) s with
    ⟨-, -, heq⟩ | ⟨-, -, heq⟩ | ⟨-, -, heq⟩ | ⟨st, -, -, -, heq⟩ | ⟨-, -, -, heq⟩ <;> rw [heq]
  · rfl
  · rfl
  · rfl
  · rfl
  · exact takeBody_cmdQueue op o s

/-! #### The sequencer passes on (R99) -/

theorem operandsOk_of_wellFormed {r : CmdRec} {op : Opcode} (h : malformed r = false) (hop : opcodeOf r.code = some op) :
    operandsOk op r.ops = true := by
  unfold malformed at h
  rw [hop] at h
  simp only [Bool.or_eq_false_iff, Bool.not_eq_false'] at h
  exact h.2

theorem opcode_of_wellFormed {r : CmdRec} (h : malformed r = false) : ∃ op, opcodeOf r.code = some op := by
  unfold malformed at h
  cases hop : opcodeOf r.code with
  | none => rw [hop] at h; cases h
  | some op => exact ⟨op, rfl⟩

/-- R96: the beginning of a take: the record leaves the queue and its completion is owed. -/
theorem Settled.taking {s t : State} (h : Settled s) (he : hasCommand s = false) (hp : s.batch.phase ≠ .unwinding)
    (hring : s.ring.length < 16) (hq : t.cmdQueue = s.cmdQueue.tail) (entries : t.entries = s.entries)
    (chans : t.chans = s.chans) (engine : t.engine = s.engine) (seq : t.seq = s.seq) (ring : t.ring = s.ring)
    (batch : t.batch = s.batch) : Taking t := by
  have he' : hasCommand t = false := (hasCommand_of_seq seq).trans he
  have hany := anyEligible_of_eq entries chans
  have hr := h.toCoreSound.not_restoring (.inl hp)
  have hp' : t.batch.phase ≠ .unwinding := by rw [batch]; exact hp
  have hno : t.engine.cmdReq = false := by rw [engine]; exact h.toCoreSound.cmdReq_of_empty he (.inl hp)
  refine ⟨⟨h.of_store entries ⟨?_, fun r hr => ?_⟩ batch (fun hh => ?_) (fun _ => ?_) ?_ (spaceSound_of_empty he')
    (ringSound_of_empty he' ?_) ?_ (fun hx => ?_), fun hw => ?_, ?_⟩, he', hp', ?_⟩
  · rw [hq, List.length_tail]
    have := h.queue.1
    omega
  · rw [hq] at hr
    exact h.queue.2 r (List.mem_of_mem_tail hr)
  · rw [he'] at hh; cases hh
  · rw [batch]; exact h.empty he
  · exact flightSound_congr h.flight hr (by rw [engine]) (fun g => by rw [entries]) (by rw [seq])
  · rw [ring]; exact h.ring.1
  · rw [engine, hany]; exact h.postReq
  · rw [hno] at hx; cases hx
  · rw [wantsCommand_of_empty he' (.inl hp')] at hw; cases hw
  · unfold Decided engineFree
    rw [engine]
    exact h.decided
  · rw [ring]; exact hring

/-- R96: a record of the queue taken. -/
theorem Settled.takeRecord {s : State} (h : Settled s) (he : hasCommand s = false) (hp : s.batch.phase ≠ .unwinding)
    (hring : s.ring.length < 16) {r : CmdRec} {q : List CmdRec} (hq : s.cmdQueue = r :: q) :
    Settled (takeRecord r (popQueue s)) ∧ (takeRecord r (popQueue s)).cmdQueue = q := by
  have hwf := h.queue.2 r (by rw [hq]; exact List.mem_cons_self)
  obtain ⟨op, hop⟩ := opcode_of_wellFormed hwf
  obtain ⟨f, hpop⟩ := popQueue_eq s
  unfold Machine.takeRecord
  rw [hop, hpop]
  have ht := h.taking he hp hring (t := ((s.withCmdQueue s.cmdQueue.tail).withIrqFlag f).withOwed true)
    rfl rfl rfl rfl rfl rfl rfl
  exact ⟨ht.take (operandsOk_of_wellFormed hwf hop), (take_cmdQueue op r.ops _).trans (congrArg List.tail hq)⟩

/-- R99: with fuel for every record of the queue, passing on ends at rest. -/
theorem passOnFor_coreInv : ∀ (n : Nat) (e : Bool) {s : State}, Settled s → hasCommand s = false →
    s.cmdQueue.length < n → CoreInv (passOnFor n e s)
  | 0, _, _, _, _, hn => absurd hn (Nat.not_lt_zero _)
  | n + 1, e, s, h, he, hn => by
    unfold passOnFor
    split
    · rename_i hp
      refine (h.withSeq he rfl).coreInv fun he' => ⟨(handSound_of_empty he').mpr ⟨h.empty he, ?_⟩, rfl⟩
      exact ⟨fun _ => hp, fun _ => rfl⟩
    · rename_i hp
      have hrest : ∀ q, inHand q = none → q ≠ .unwinding none → restSound (s.withSeq q) = true →
          CoreInv (s.withSeq q) := fun q hq hne hr =>
        (h.withSeq he hq).coreInv fun he' =>
          ⟨(handSound_of_empty he').mpr ⟨h.empty he, fun hs => absurd hs hne, fun hx => absurd hx hp⟩, hr⟩
      split
      · rename_i hq
        obtain ⟨f, hidle⟩ := enterIdle_eq e s
        rw [hidle]
        exact (hrest .idle rfl nofun (by simp [restSound, hq])).of_same {} (anyEligible_of_eq rfl rfl)
      · rename_i r q hq
        split
        · rename_i hfull
          refine hrest .stalled rfl nofun ?_
          have hlen : s.ring.length = 16 := le_antisymm h.ring.1 (of_decide_eq_true hfull)
          simp [restSound, hq, hlen]
        · rename_i hfull
          have hroom : s.ring.length < 16 := Nat.lt_of_not_le fun hx => hfull (decide_eq_true hx)
          obtain ⟨hs, hqueue⟩ := h.takeRecord he hp hroom hq
          dsimp only
          split
          · rename_i hh
            exact hs.coreInv fun hx => by rw [hh] at hx; cases hx
          · rename_i hh
            refine passOnFor_coreInv n true hs (Bool.eq_false_iff.mpr hh) ?_
            rw [hqueue]
            rw [hq] at hn
            exact Nat.lt_of_succ_lt_succ hn

/-- R99: a settled core is at rest once its sequencer has passed on. -/
theorem Settled.handOn {s : State} (h : Settled s) (e : Bool) : CoreInv (handOn e s) := by
  cases he : hasCommand s with
  | true =>
    rw [handOn_hand e he]
    exact h.coreInv fun hx => by rw [he] at hx; cases hx
  | false =>
    rw [handOn_empty e he]
    exact passOnFor_coreInv _ e h he (Nat.lt_succ_self _)

/-- R96: a take row keeps the core at rest. -/
theorem takeStep_coreInv {s : State} (h : CoreInv s) (op : Opcode) (o : Operands) :
    CoreInv (takeStep op o (take op o) s) := by
  rw [takeStep_eq]
  split
  · rename_i hc
    simp only [canTake, Bool.and_eq_true, Bool.not_eq_true', bne_iff_ne, ne_eq] at hc
    obtain ⟨⟨⟨⟨⟨-, he⟩, hfull⟩, hp⟩, hwf⟩, -⟩ := hc
    have hroom : s.ring.length < 16 := Nat.lt_of_not_le (of_decide_eq_false hfull)
    obtain ⟨f, hbegin⟩ := beginTake_eq s
    rw [hbegin]
    have ht := h.settled.taking he hp hroom (t := ((s.withCmdQueue s.cmdQueue.tail).withOwed true).withIrqFlag f)
      rfl rfl rfl rfl rfl rfl rfl
    exact (ht.take (operandsOk_of_wellFormed hwf (opcodeOf_opcodeByte op))).handOn true
  · exact h

end Sys2Proof.Machine
end

section
/-! ### What an operation writes, and the undo records of its writes -/

namespace Sys2Proof.Machine

open Sys2Proof.Safety

set_option Elab.async false

/-! #### The writes of an operation (R29–R35) -/

/-- R15, R38: what the writes of an operation do to the store: a beginning of the target's chain is written, each entry
handed on with its value from before; nothing but values changes, and what is written fits. -/
structure WritesChain (es : Vector Entry 32) (g : Fin 32) (ws : List Written) (es' : Vector Entry 32) : Prop where
  beginning : ws.map (fun w => w.index) <+: chain es g
  prior : ∀ w ∈ ws, w.prior = es[w.index].value
  untouched : ∀ k : Fin 32, k ∉ ws.map (fun w => w.index) → es'[k] = es[k]
  values : ∀ k : Fin 32, es'[k] = { es[k] with value := es'[k].value }
  sound : StoreSound es'

theorem chainWrite_writesChain {es : Vector Entry 32} (hs : StoreSound es) (g : Fin 32) (r : Dec) :
    WritesChain es g (chainWrite es g r).1 (chainWrite es g r).2 :=
  ⟨chainWriteFrom_prefix _ es g r, chainWriteFrom_prior _ hs g r, chainWriteFrom_untouched _ es g r,
    chainWriteFrom_attr _ es g r, chainWriteFrom_sound _ hs g r⟩

theorem singleWrite_writesChain {es : Vector Entry 32} (hs : StoreSound es) (g : Fin 32) (r : Dec) :
    WritesChain es g (singleWrite es g r).1 (singleWrite es g r).2 := by
  refine ⟨?_, fun w hw => ?_, fun k hk => ?_, fitEntry_attr es g r, fitEntry_sound hs g r⟩
  · exact List.prefix_iff_eq_append.mpr rfl
  · obtain rfl : w = ⟨g, (fit es[g].attr r).outcome, es[g].value⟩ := List.mem_singleton.mp hw
    rfl
  · exact fitEntry_get_ne es r fun hkg => hk (List.mem_singleton.mpr hkg)

/-- R21: the operation is a restore. -/
def OpKind.isRestore : OpKind → Bool
  | .restore _ => true
  | _ => false

theorem opWrites_writesChain {es : Vector Entry 32} (hs : StoreSound es) {x : Operation}
    (hx : x.kind.isRestore = false) : WritesChain es x.target (opWrites x es).1 (opWrites x es).2 := by
  obtain ⟨k, g⟩ := x
  cases k with
  | post ch w d => exact chainWrite_writesChain hs g _
  | add src => exact chainWrite_writesChain hs g _
  | sub src => exact chainWrite_writesChain hs g _
  | move src => exact chainWrite_writesChain hs g _
  | negate => exact singleWrite_writesChain hs g _
  | clear => exact singleWrite_writesChain hs g _
  | compare src => exact ⟨List.nil_prefix, nofun, fun _ _ => rfl, fun _ => rfl, hs⟩
  | restore p => cases hx

namespace WritesChain

variable {es es' : Vector Entry 32} {g : Fin 32} {ws : List Written} (h : WritesChain es g ws es')

include h

theorem attr (k : Fin 32) : es'[k].attr = es[k].attr := by rw [h.values k]

theorem held (k : Fin 32) : es'[k].held = es[k].held := by rw [h.values k]

theorem nodup (hs : StoreSound es) : (ws.map fun w => w.index).Nodup :=
  h.beginning.sublist.nodup (chainFrom_nodup hs _ g)

/-- R55: a write into a chain of which nothing is held writes nothing that is held. -/
theorem unheld (hh : chainHeld es g = false) {k : Fin 32} (hk : k ∈ ws.map fun w => w.index) : es[k].held = false := by
  unfold chainHeld at hh
  rw [List.any_eq_false] at hh
  exact Bool.eq_false_iff.mpr (hh k (h.beginning.subset hk))

end WritesChain

/-! #### Stores with the same links and markers -/

theorem chain_congr {es es' : Vector Entry 32} (h : ∀ k : Fin 32, es'[k].attr = es[k].attr) (g : Fin 32) :
    chain es' g = chain es g := chainFrom_congr es es' h _ g

theorem chainHeld_congr {es es' : Vector Entry 32} (hattr : ∀ k : Fin 32, es'[k].attr = es[k].attr)
    (hheld : ∀ k : Fin 32, es'[k].held = es[k].held) (g : Fin 32) : chainHeld es' g = chainHeld es g := by
  unfold chainHeld
  rw [chain_congr hattr]
  exact congrArg (List.any (chain es g)) (funext hheld)

theorem chainUnheld_congr {es es' : Vector Entry 32} (hattr : ∀ k : Fin 32, es'[k].attr = es[k].attr)
    (hheld : ∀ k : Fin 32, es'[k].held = es[k].held) (g : Fin 32) : chainUnheld es' g = chainUnheld es g := by
  unfold chainUnheld
  rw [chain_congr hattr]
  exact congrArg (fun p => (List.filter p (chain es g)).length) (funext fun k => by rw [hheld k])

theorem undoSound_congr {es es' : Vector Entry 32} {undo : List UndoRec} (h : UndoSound es undo)
    (hattr : ∀ k : Fin 32, es'[k].attr = es[k].attr) (hheld : ∀ k : Fin 32, es'[k].held = es[k].held) :
    UndoSound es' undo := by
  obtain ⟨hlen, hnodup, hiff, hfit⟩ := h
  exact ⟨hlen, hnodup, fun i => by rw [hheld]; exact hiff i, fun u hu => by rw [hattr]; exact hfit u hu⟩

/-! #### Undo records (R9, R111) -/

/-- R9: the committed value of an entry, by a store and an undo stack. -/
def committedIn (es : Vector Entry 32) (undo : List UndoRec) (i : Fin 32) : Dec :=
  if es[i].held then (priorOf undo i).getD es[i].value else es[i].value

theorem committed_eq (s : State) (i : Fin 32) : committed s i = committedIn s.entries s.batch.undo i := rfl

theorem committedIn_unheld {es : Vector Entry 32} {undo : List UndoRec} {i : Fin 32} (h : es[i].held = false) :
    committedIn es undo i = es[i].value := by
  unfold committedIn
  rw [h]
  rfl

/-- R111: the record of an entry is the one of the stack with its index. -/
theorem priorOf_of_mem {undo : List UndoRec} (hn : (undo.map fun u => u.index).Nodup) {u : UndoRec} (hu : u ∈ undo) :
    priorOf undo u.index = some u.prior := by
  induction undo with
  | nil => cases hu
  | cons v vs ih =>
    obtain ⟨hv, hvs⟩ := List.nodup_cons.mp hn
    unfold priorOf at ih ⊢
    by_cases hx : v.index = u.index
    · have hvu : u = v := by
        rcases List.mem_cons.mp hu with rfl | hmem
        · rfl
        · exact absurd (List.mem_map.mpr ⟨u, hmem, hx.symm⟩) hv
      simp [hvu]
    · have hmem : u ∈ vs := (List.mem_cons.mp hu).resolve_left fun h => hx (congrArg UndoRec.index h.symm)
      rw [List.find?_cons_of_neg (by simpa using hx)]
      exact ih hvs hmem

/-- R9: the committed value of a held entry is the prior value of its record. -/
theorem committedIn_of_mem {es : Vector Entry 32} {undo : List UndoRec} (h : UndoSound es undo) {u : UndoRec}
    (hu : u ∈ undo) : committedIn es undo u.index = u.prior := by
  obtain ⟨-, hnodup, hiff, -⟩ := h
  have hheld := (hiff u.index).mpr (List.mem_map_of_mem hu)
  unfold committedIn
  rw [hheld, priorOf_of_mem hnodup hu]
  rfl

/-- R111: the record of a held entry. -/
theorem exists_record {es : Vector Entry 32} {undo : List UndoRec} (h : UndoSound es undo) {i : Fin 32}
    (hi : es[i].held = true) : ∃ u ∈ undo, u.index = i := by
  obtain ⟨-, -, hiff, -⟩ := h
  simpa using (hiff i).mp hi

/-! #### Pushes (R115) -/

/-- The records that a push adds for entries not yet held, oldest first. -/
def newRecords (ws : List Written) (es : Vector Entry 32) : List UndoRec :=
  (ws.filter fun w => !es[w.index].held).map fun w => ⟨w.index, w.prior⟩

/-- R115: the markers and the stack after a push of entries written once each. -/
theorem pushWritten_closed : ∀ (ws : List Written) (es : Vector Entry 32) (undo : List UndoRec),
    (ws.map fun w => w.index).Nodup →
    (∀ i : Fin 32, (pushWritten ws es undo).1[i].held = (es[i].held || (ws.map fun w => w.index).contains i))
      ∧ (pushWritten ws es undo).2 = (newRecords ws es).reverse ++ undo
  | [], es, undo, _ => ⟨fun i => by simp [pushWritten], rfl⟩
  | w :: ws, es, undo, hn => by
    obtain ⟨hw, hws⟩ := List.nodup_cons.mp hn
    unfold pushWritten
    split
    · rename_i hheld
      obtain ⟨h1, h2⟩ := pushWritten_closed ws es undo hws
      refine ⟨fun i => ?_, ?_⟩
      · rw [h1 i, List.map_cons, List.contains_cons]
        by_cases hi : i = w.index
        · rw [hi, hheld]
          rfl
        · rw [beq_eq_false_iff_ne.mpr hi]
          rfl
      · rw [h2]
        unfold newRecords
        rw [List.filter_cons_of_neg (by rw [hheld]; exact nofun)]
    · rename_i hheld
      obtain ⟨h1, h2⟩ := pushWritten_closed ws (setEntry es w.index { es[w.index] with held := true })
        (⟨w.index, w.prior⟩ :: undo) hws
      have hfilter : newRecords ws (setEntry es w.index { es[w.index] with held := true }) = newRecords ws es := by
        unfold newRecords
        refine congrArg (List.map _) (List.filter_congr fun v hv => ?_)
        rw [setEntry_get_ne _ _ (ne_of_mem_of_not_mem (List.mem_map_of_mem hv) hw)]
      refine ⟨fun i => ?_, ?_⟩
      · rw [h1 i, List.map_cons, List.contains_cons]
        by_cases hi : i = w.index
        · rw [hi, setEntry_get_self, beq_self_eq_true, Bool.true_or, Bool.or_true]
        · rw [setEntry_get_ne _ _ hi, beq_eq_false_iff_ne.mpr hi]
          rfl
      · rw [h2, hfilter]
        unfold newRecords
        rw [List.filter_cons_of_pos (by rw [Bool.eq_false_iff.mpr hheld]; rfl)]
        simp

theorem mem_newRecords {ws : List Written} {es : Vector Entry 32} {u : UndoRec} :
    u ∈ newRecords ws es ↔ ∃ w ∈ ws, es[w.index].held = false ∧ u = ⟨w.index, w.prior⟩ := by
  unfold newRecords
  constructor
  · intro h
    obtain ⟨w, hw, rfl⟩ := List.mem_map.mp h
    obtain ⟨hmem, hheld⟩ := List.mem_filter.mp hw
    exact ⟨w, hmem, by simpa using hheld, rfl⟩
  · rintro ⟨w, hmem, hheld, rfl⟩
    exact List.mem_map.mpr ⟨w, List.mem_filter.mpr ⟨hmem, by rw [hheld]; rfl⟩, rfl⟩

theorem newRecords_indices (ws : List Written) (es : Vector Entry 32) :
    (newRecords ws es).map (fun u => u.index) = (ws.map fun w => w.index).filter fun i => !es[i].held := by
  unfold newRecords
  rw [List.map_map, List.filter_map]
  rfl

/-- R114, R115: the records pushed for a chain's beginning are no more than the chain has entries not held. -/
theorem newRecords_length_le {es es' : Vector Entry 32} {g : Fin 32} {ws : List Written}
    (h : WritesChain es g ws es') : (newRecords ws es).length ≤ chainUnheld es g := by
  have hlen : (newRecords ws es).length = ((ws.map fun w => w.index).filter fun i => !es[i].held).length := by
    rw [← newRecords_indices, List.length_map]
  rw [hlen]
  exact (h.beginning.sublist.filter _).length_le

/-- R115: the push of an operation's writes: its store and its stack. -/
structure Pushed (es es' es'' : Vector Entry 32) (undo undo'' : List UndoRec) (ws : List Written) : Prop where
  held : ∀ i : Fin 32, es''[i].held = (es[i].held || (ws.map fun w => w.index).contains i)
  entry : ∀ i : Fin 32, es''[i] = { es'[i] with held := es''[i].held }
  stack : undo'' = (newRecords ws es).reverse ++ undo

theorem pushWritten_pushed {es es' : Vector Entry 32} (hs : StoreSound es) {g : Fin 32} {ws : List Written}
    (h : WritesChain es g ws es') (undo : List UndoRec) :
    Pushed es es' (pushWritten ws es' undo).1 undo (pushWritten ws es' undo).2 ws := by
  obtain ⟨hheld, hstack⟩ := pushWritten_closed ws es' undo (h.nodup hs)
  have hnew : newRecords ws es' = newRecords ws es := by
    unfold newRecords
    exact congrArg (List.map _) (List.filter_congr fun w _ => by rw [h.held])
  exact ⟨fun i => by rw [hheld i, h.held i], fun i => (pushWritten_entry ws es' undo i).1, by rw [hstack, hnew]⟩

namespace Pushed

variable {es es' es'' : Vector Entry 32} {undo undo'' : List UndoRec} {ws : List Written} {g : Fin 32}

theorem record_of_written (hp : Pushed es es' es'' undo undo'' ws) (hw : WritesChain es g ws es') {i : Fin 32}
    (hi : i ∈ ws.map fun w => w.index) (hfree : es[i].held = false) : (⟨i, es[i].value⟩ : UndoRec) ∈ undo'' := by
  obtain ⟨w, hmem, rfl⟩ := List.mem_map.mp hi
  rw [hp.stack, List.mem_append, List.mem_reverse, mem_newRecords]
  exact .inl ⟨w, hmem, hfree, by rw [hw.prior w hmem]⟩

theorem indices (hp : Pushed es es' es'' undo undo'' ws) : undo''.map (fun u => u.index)
    = ((ws.map fun w => w.index).filter fun i => !es[i].held).reverse ++ undo.map fun u => u.index := by
  rw [hp.stack, List.map_append, List.map_reverse, newRecords_indices]

/-- R111: the stack stays sound when the undo space was there. -/
theorem undoSound (hp : Pushed es es' es'' undo undo'' ws) (hs : StoreSound es) (hu : UndoSound es undo)
    (hw : WritesChain es g ws es') (hroom : undo.length + chainUnheld es g ≤ 12) : UndoSound es'' undo'' := by
  obtain ⟨-, hnodup, hiff, hfit⟩ := hu
  have hattr : ∀ i : Fin 32, es''[i].attr = es[i].attr := fun i => by rw [hp.entry i]; exact hw.attr i
  refine ⟨?_, ?_, fun i => ?_, fun u hmem => ?_⟩
  · rw [hp.stack, List.length_append, List.length_reverse]
    have := newRecords_length_le hw
    omega
  · rw [hp.indices]
    refine List.nodup_append'.mpr ⟨List.nodup_reverse.mpr ((hw.nodup hs).filter _), hnodup, fun i h1 h2 => ?_⟩
    have hfree := (List.mem_filter.mp (List.mem_reverse.mp h1)).2
    rw [(hiff i).mpr h2] at hfree
    cases hfree
  · rw [hp.indices, hp.held i, List.mem_append, List.mem_reverse, List.mem_filter, ← hiff i, Bool.or_eq_true,
      List.contains_iff_mem]
    cases es[i].held <;> simp
  · rw [hattr]
    rw [hp.stack, List.mem_append, List.mem_reverse] at hmem
    rcases hmem with hmem | hmem
    · obtain ⟨w, hwm, -, rfl⟩ := mem_newRecords.mp hmem
      rw [hw.prior w hwm]
      exact (hs w.index).1
    · exact hfit u hmem

/-- R9: a write of a batch command changes no committed value. -/
theorem committedIn_eq (hp : Pushed es es' es'' undo undo'' ws) (hs : StoreSound es) (hu : UndoSound es undo)
    (hw : WritesChain es g ws es') (hroom : undo.length + chainUnheld es g ≤ 12) (i : Fin 32) :
    committedIn es'' undo'' i = committedIn es undo i := by
  have hu'' := hp.undoSound hs hu hw hroom
  cases hheld : es[i].held with
  | true =>
    obtain ⟨u, hmem, rfl⟩ := exists_record hu hheld
    rw [committedIn_of_mem hu hmem]
    exact committedIn_of_mem hu'' (by rw [hp.stack]; exact List.mem_append_right _ hmem)
  | false =>
    rw [committedIn_unheld hheld]
    by_cases hi : i ∈ ws.map fun w => w.index
    · exact committedIn_of_mem hu'' (hp.record_of_written hw hi hheld)
    · have hno : es''[i].held = false := by
        rw [hp.held i, hheld]
        simpa using hi
      rw [committedIn_unheld hno, hp.entry i, hw.untouched i hi]

end Pushed

end Sys2Proof.Machine
end

section
/-! ### The engine completions keep the core at rest -/

namespace Sys2Proof.Machine

open Sys2Proof.Safety

set_option Elab.async false

/-! #### The decision at a completion (R37, log 11) -/

theorem SameCore.freeEngine {s t : State} (h : SameCore s t) : SameCore (freeEngine s) (freeEngine t) :=
  ⟨h.entries, by rw [freeEngine_eq, freeEngine_eq, h.engine], h.cmdQueue, h.seq, h.owed, h.ring, h.batch⟩

theorem SameCore.wantsCommand {s t : State} (h : SameCore s t) : wantsCommand s = wantsCommand t := by
  unfold Safety.wantsCommand
  rw [h.seq, h.batch, h.engine]

theorem SeqKept.of_seq {s t u : State} (h : SeqKept t u) (e : t.seq = s.seq) : SeqKept s u := by
  unfold SeqKept at h ⊢
  rw [← e]
  exact h

/-- R95: the command in hand agrees with the batch unit whatever the store holds. -/
theorem handSound_congr {s t : State} (hseq : t.seq = s.seq) (hbatch : t.batch = s.batch) : handSound t = handSound s := by
  unfold handSound
  rw [hseq, hbatch]
  cases s.seq with
  | waiting r =>
    dsimp only
    cases opcodeOf r.code with
    | none => rfl
    | some op => cases op <;> rfl
  | _ => rfl

/-- R25: a request of the post side behind which no channel stands any more is withdrawn at the decision. -/
theorem arbitrate_refreshed {t : State} (hc : t.engine.cmdReq = false)
    (hp : anyEligible t = true → t.engine.postReq = true) : arbitrate t = arbitrate (refreshPostReq t) := by
  by_cases heq : t.engine.postReq = anyEligible t
  · rw [show refreshPostReq t = t by rw [refreshPostReq_eq, ← heq]]
  · have hnone : anyEligible t = false := by
      cases hany : anyEligible t with
      | false => rfl
      | true => exact absurd ((hp hany).trans hany.symm) heq
    have hpost : t.engine.postReq = true := by rw [hnone] at heq; exact Bool.eq_true_of_not_eq_false heq
    have hchoose : chooseChan t = none := by
      rw [chooseChan, List.find?_eq_none]
      exact fun ch _ => List.any_eq_false.mp hnone ch (mem_allChans ch)
    have hrefresh : refreshPostReq t = setPostReq false t := by rw [refreshPostReq, hnone]
    rw [hrefresh, arbitrate_idle (setPostReq false t) rfl hc]
    have hgrant : grantPost t = setPostReq false t := by
      rw [grantPost, hchoose]
      exact if_neg (by rw [show (setPostReq false t).engine.cmdReq = false from hc]; exact Bool.noConfusion)
    rw [arbitrate, hpost, hc, hgrant]

/-- R24: without a request of the command side no restore starts. -/
theorem arbitrate_not_restoring {t : State} (hf : engineFree t = true) (hc : t.engine.cmdReq = false) :
    restoring (arbitrate t) = false := by
  have hfree := restoring_of_free hf
  unfold arbitrate
  rw [hc]
  cases t.engine.postReq with
  | false => exact hfree
  | true =>
    dsimp only
    unfold grantPost
    split
    · rfl
    · dsimp only
      rw [if_neg (by rw [show (setPostReq false t).engine.cmdReq = false from hc]; exact Bool.noConfusion)]
      exact hfree

/-- R113, R118: at a FREE engine a batch that unwinds has no command in flight. -/
theorem CoreSound.member_of_free {t : State} (h : CoreSound t) (hf : engineFree t = true)
    (hp : t.batch.phase = .unwinding) : t.batch.member = false := by
  cases he : hasCommand t with
  | false => exact h.empty he
  | true =>
    have hexec := not_executing_of_free h hf
    have hh := h.hand he
    cases hs : t.seq with
    | idle => simp [hasCommand, inHand, hs] at he
    | stalled => simp [hasCommand, inHand, hs] at he
    | waiting r =>
      rcases ((handSound_waiting hs).mp hh).2 with ⟨hx, -⟩ | ⟨hx, -⟩ <;> rw [hp] at hx <;> cases hx
    | executing r => rw [hs] at hexec; cases hexec
    | unwinding a => exact ((handSound_unwinding hs).mp hh).2

/-- R98, R101, R118: after a decision the unwinder goes on, or the sequencer passes on. -/
theorem resume_coreInv {t : State} (h : CoreSound t) (hd : Decided t)
    (hunw : t.batch.phase = .unwinding → t.batch.member = false ∧ restoring t = false
      ∧ (t.batch.undo = [] → hasCommand t = false))
    (hout : t.batch.phase ≠ .unwinding → Heard t) : CoreInv (resume t) := by
  rw [resume_eq]
  split
  · rename_i hp
    obtain ⟨hm, hr, he⟩ := hunw hp
    exact (beginUnwind_settled h hd hp hm hr he).handOn true
  · rename_i hp
    exact Settled.handOn ⟨h, hout hp, hd⟩ true

/-- R37, R98, R118: a completion with the engine freed, at which only the post side can be waiting. -/
theorem completion_coreInv {t : State} (h : CoreSound (refreshPostReq t)) (hf : engineFree t = true)
    (hc : t.engine.cmdReq = false) (hp : anyEligible t = true → t.engine.postReq = true)
    (hunw : t.batch.phase = .unwinding → t.batch.undo = [] → hasCommand t = false)
    (hout : t.batch.phase ≠ .unwinding → hasCommand t = false) : CoreInv (resume (arbitrate t)) := by
  rw [arbitrate_refreshed hc hp]
  have hf' : engineFree (refreshPostReq t) = true := hf
  have hbatch : (arbitrate (refreshPostReq t)).batch = t.batch := by rw [arbitrate_eq]; rfl
  have hhand : hasCommand (arbitrate (refreshPostReq t)) = hasCommand t := (arbitrate_seqKept _).hasCommand
  obtain ⟨hsound, hdecided, -⟩ := arbitrate_settles h hf'
  refine resume_coreInv hsound hdecided (fun hp => ?_) fun hp hw => ?_
  · rw [hbatch] at hp ⊢
    exact ⟨h.member_of_free hf' hp, arbitrate_not_restoring hf' hc, fun hu => hhand.trans (hunw hp hu)⟩
  · rw [hbatch] at hp
    rw [wantsCommand_of_empty (hhand.trans (hout hp)) (.inl (by rw [hbatch]; exact hp))] at hw
    cases hw

/-! #### POST_COMPLETION (R29) -/

/-- R55, R137: the store after a post: nothing held is written, and every entry written is evaluated. -/
theorem post_sides {s : State} {es : Vector Entry 32} {g : Fin 32} {ws : List Written} (hsides : SidesSound s)
    (hw : WritesChain s.entries g ws es) (hheld : chainHeld s.entries g = false) (i : Fin 32) :
    ∀ t ∈ (evaluateAll es (ws.map fun w => w.index)).1[i].threshold,
      (evaluateAll es (ws.map fun w => w.index)).1[i].side
        = sideOf t (committedIn (evaluateAll es (ws.map fun w => w.index)).1 s.batch.undo i) := by
  have hh : (evaluateAll es (ws.map fun w => w.index)).1[i].held = s.entries[i].held := by
    rw [evaluateAll_held, hw.held]
  by_cases hi : i ∈ ws.map fun w => w.index
  · rw [committedIn_unheld (hh.trans (hw.unheld hheld hi))]
    exact evaluateAll_sides (fun hno => absurd hi hno)
  · have hsame : (evaluateAll es (ws.map fun w => w.index)).1[i] = s.entries[i] :=
      (evaluateAll_get_of_not_mem _ es i hi).trans (hw.untouched i hi)
    intro t ht
    rw [hsame] at ht
    have hold := hsides i t ht
    rw [committed_eq] at hold
    unfold committedIn at hold ⊢
    rw [hsame]
    exact hold

theorem postDone_coreInv {s : State} (h : CoreInv s) {ch : Fin 8} {w : Nat} {d : Direction} {g : Fin 32}
    (hx : s.engine.inFlight = some ⟨.post ch w d, g⟩) : CoreInv (postDone ⟨.post ch w d, g⟩ s) := by
  have hset := h.settled
  have hflight := h.sound.flight
  rw [flightSound_post hx] at hflight
  simp only [Bool.and_eq_true, Bool.not_eq_true'] at hflight
  obtain ⟨hheld, hexec⟩ := hflight
  have hw := opWrites_writesChain (x := ⟨.post ch w d, g⟩) h.sound.store rfl
  unfold postDone
  generalize opWrites ⟨.post ch w d, g⟩ s.entries = r at hw
  obtain ⟨ws, es⟩ := r
  have hsides := post_sides h.sound.sides hw hheld
  have hattr : ∀ k : Fin 32, (evaluateAll es (ws.map fun w => w.index)).1[k].attr = s.entries[k].attr := fun k => by
    rw [evaluateAll_entry]; exact hw.attr k
  have hmark : ∀ k : Fin 32, (evaluateAll es (ws.map fun w => w.index)).1[k].held = s.entries[k].held := fun k => by
    rw [evaluateAll_held]; exact hw.held k
  have hstore := evaluateAll_sound hw.sound (ws.map fun w => w.index)
  dsimp only
  generalize evaluateAll es (ws.map fun w => w.index) = e at hsides hattr hmark hstore
  obtain ⟨es1, evs⟩ := e
  dsimp only at hsides hattr hmark hstore ⊢
  have hchain := chainHeld_congr hattr hmark
  have hnr : restoring s = false := by unfold restoring; rw [hx]
  have hwants : wantsCommand (freeEngine (s.withEntries es1)) = wantsCommand s := by
    rw [wantsCommand_eq, wantsCommand_eq, hnr]
    rfl
  have hany : anyEligible (freeEngine (s.withEntries es1)) = anyEligible s :=
    anyEligible_congr fun ch => eligible_congr rfl (fun _ => rfl) hchain
  have hspace : spaceSound (freeEngine (s.withEntries es1)) = true := by
    have hsp := h.sound.space
    cases hs : s.seq with
    | waiting r =>
      rw [spaceSound_waiting hs] at hsp
      rw [spaceSound_waiting (s := freeEngine (s.withEntries es1)) hs]
      unfold undoShort at hsp ⊢
      rw [show chainUnheld (freeEngine (s.withEntries es1)).entries _ = _ from chainUnheld_congr hattr hmark _]
      exact hsp
    | executing r => rw [hs] at hexec; cases hexec
    | _ => exact spaceSound_idle (congrArg isWaiting hs) (congrArg isExecuting hs)
  have hcore : CoreSound (freeEngine (s.withEntries es1)) := by
    refine ⟨hstore, undoSound_congr h.sound.undo hattr hmark, h.sound.batch, fun _ => ?_, hset.empty, ?_, hspace,
      h.sound.queue, h.sound.ring, hsides, h.requests.1.trans hany.symm, ?_⟩
    · exact (handSound_congr (s := s) (t := freeEngine (s.withEntries es1)) rfl rfl).trans h.sound.hand
    · rw [flightSound_free rfl]
      exact congrArg not hexec
    · rw [hwants]; exact hset.cmdReq
  have hsame := appendThreads_sameCore [postEvents es1 ws, evs] (s.withEntries es1)
  have hfree := hsame.freeEngine
  have hchans : (freeEngine (appendThreads [postEvents es1 ws, evs] (s.withEntries es1))).chans = s.chans :=
    appendThreads_chans [postEvents es1 ws, evs] (s.withEntries es1)
  obtain ⟨hsound, hdecided, hheard⟩ := arbitrate_settles (hcore.of_same hfree (anyEligible_of_eq hfree.entries hchans)) rfl
  refine h.of_settled ⟨hsound, hheard fun hw => ?_, hdecided⟩ ?_ ?_ ?_ ?_
  · rw [← hfree.wantsCommand, hwants] at hw
    rw [hfree.engine]
    exact hset.heard hw
  · rw [arbitrate_eq]; exact hfree.batch
  · rw [arbitrate_eq]; exact hfree.cmdQueue
  · rw [arbitrate_eq]; exact hfree.ring
  · exact (arbitrate_seqKept _).of_seq hfree.seq

end Sys2Proof.Machine
end

section
/-! ### ARITHMETIC_COMPLETION and RESTORE_COMPLETION keep the core at rest -/

namespace Sys2Proof.Machine

open Sys2Proof.Safety

set_option Elab.async false

/-! #### What the steps of a completion leave alone -/

theorem finishCommand_entries (r : CmdRec) (f : FlagWord) (s : State) : (finishCommand r f s).entries = s.entries := by
  unfold finishCommand
  split
  · split <;> rfl
  · rfl

/-- R98: what the record of a command leaves alone. -/
theorem finishCommand_frame (r : CmdRec) (f : FlagWord) (s : State) :
    (finishCommand r f s).engine = s.engine ∧ (finishCommand r f s).cmdQueue = s.cmdQueue
      ∧ (finishCommand r f s).batch = s.batch ∧ (finishCommand r f s).chans = s.chans
      ∧ (finishCommand r f s).seq = s.seq := by
  unfold finishCommand
  split
  · split <;> exact ⟨rfl, rfl, rfl, rfl, rfl⟩
  · exact ⟨rfl, rfl, rfl, rfl, rfl⟩

/-- R98, R102: the record of a command takes the place that the ring has for it. -/
theorem finishCommand_ring {s : State} (h : s.ring.length ≤ 16) (hroom : s.owed = true → s.ring.length < 16) (r : CmdRec)
    (f : FlagWord) : (finishCommand r f s).ring.length ≤ 16 := by
  unfold finishCommand
  split
  · rename_i howed
    split
    · rw [complete_eq]
      exact List.length_append.trans_le (hroom howed)
    · exact h
  · exact h

/-- R115, R126: the batch unit after the completion of a member of the batch. -/
def memberBatch (ws : List Written) (s : State) : Batch :=
  if s.batch.deferred then
    { s.batch with
      phase := .unwinding, cause := .void, undo := (pushWritten ws s.entries s.batch.undo).2, timer := none
      member := false, deferred := false }
  else { s.batch with undo := (pushWritten ws s.entries s.batch.undo).2, member := false, deferred := false }

theorem memberDone_sameCore (ws : List Written) (s : State) :
    SameCore ((s.withEntries (pushWritten ws s.entries s.batch.undo).1).withBatch (memberBatch ws s)) (memberDone ws s)
      ∧ (memberDone ws s).chans = s.chans := by
  unfold memberDone memberBatch
  cases s.batch.deferred with
  | false => exact ⟨{}, rfl⟩
  | true =>
    dsimp only
    rw [if_pos rfl, if_pos rfl]
    obtain ⟨q, f, h⟩ := openVoid_eq 2 ((s.withEntries (pushWritten ws s.entries s.batch.undo).1).withBatch
      { s.batch with undo := (pushWritten ws s.entries s.batch.undo).2, member := false, deferred := false })
    rw [h]
    exact ⟨{}, rfl⟩

theorem memberBatch_undo (ws : List Written) (s : State) :
    (memberBatch ws s).undo = (pushWritten ws s.entries s.batch.undo).2 := by
  unfold memberBatch
  split <;> rfl

theorem memberBatch_member (ws : List Written) (s : State) : (memberBatch ws s).member = false := by
  unfold memberBatch
  split <;> rfl

theorem memberBatch_deferred (ws : List Written) (s : State) : (memberBatch ws s).deferred = false := by
  unfold memberBatch
  split <;> rfl

/-- R133: what a completion outside a batch does to the core. -/
theorem plainDone_sameCore (ws : List Written) (s : State) :
    SameCore (s.withEntries (evaluateAll s.entries (ws.map fun w => w.index)).1) (plainDone ws s)
      ∧ (plainDone ws s).chans = s.chans :=
  ⟨appendThreads_sameCore _ _, appendThreads_chans _ _⟩

/-! #### ARITHMETIC_COMPLETION (R98) -/

theorem chainHeld_mono {es es' : Vector Entry 32} (hattr : ∀ k : Fin 32, es'[k].attr = es[k].attr)
    (hheld : ∀ k : Fin 32, es[k].held = true → es'[k].held = true) {g : Fin 32} (h : chainHeld es' g = false) :
    chainHeld es g = false := by
  unfold chainHeld at h ⊢
  rw [chain_congr hattr] at h
  rw [List.any_eq_false] at h ⊢
  exact fun k hk hx => h k hk (hheld k hx)

/-- R108, R113: a command EXECUTING while the batch is not NONE belongs to the batch. -/
theorem CoreInv.member_of_executing {s : State} (h : CoreInv s) {r : CmdRec} (hs : s.seq = .executing r) :
    s.batch.member = true ↔ s.batch.phase ≠ .none := ((handSound_executing hs).mp h.sound.hand).2

/-- R22: the command side has no request while its command is EXECUTING. -/
theorem CoreInv.cmdReq_of_executing {s : State} (h : CoreInv s) {r : CmdRec} (hs : s.seq = .executing r) :
    s.engine.cmdReq = false := by
  obtain ⟨-, hcmd, -⟩ := h.requests
  rw [hcmd, wantsCommand_eq, hs]
  by_cases hp : s.batch.phase = .unwinding
  · rw [(h.member_of_executing hs).mpr (by rw [hp]; exact nofun), hp]
    rfl
  · rw [beq_eq_false_iff_ne.mpr hp]
    rfl

/-- R98: the engine is freed for a command that has left the hand: the store has only gained held entries, and whatever the
batch unit is in, it has no member. -/
theorem arithFinish_coreInv {s t : State} (h : CoreInv s) {r : CmdRec} (hs : s.seq = .executing r)
    (store : StoreSound t.entries) (undo : UndoSound t.entries t.batch.undo) (batch : BatchSound t)
    (member : t.batch.member = false) (seq : t.seq = .stalled) (cmdQueue : t.cmdQueue = s.cmdQueue)
    (ring : t.ring.length ≤ 16) (sides : SidesSound t) (engine : t.engine = s.engine) (chans : t.chans = s.chans)
    (attr : ∀ k : Fin 32, t.entries[k].attr = s.entries[k].attr)
    (held : ∀ k : Fin 32, s.entries[k].held = true → t.entries[k].held = true) :
    CoreInv (resume (arbitrate (freeEngine t))) := by
  have hempty : hasCommand (freeEngine t) = false := by
    rw [hasCommand_of_seq (s := s.withSeq .stalled) (t := freeEngine t) seq]
    rfl
  have hcmd : (freeEngine t).engine.cmdReq = false := by
    rw [show (freeEngine t).engine.cmdReq = t.engine.cmdReq from rfl, engine]
    exact h.cmdReq_of_executing hs
  refine completion_coreInv (t := freeEngine t) ⟨store, undo, batch, fun hh => ?_, fun _ => member, ?_, ?_, ?_,
    ringSound_of_empty hempty ring, sides, rfl, fun hc => ?_⟩ rfl hcmd (fun hany => ?_) (fun _ _ => hempty) fun _ => hempty
  · rw [show hasCommand (refreshPostReq (freeEngine t)) = false from hempty] at hh
    cases hh
  · rw [flightSound_free rfl]
    exact congrArg (fun q => !isExecuting q) seq
  · exact spaceSound_of_empty hempty
  · exact cmdQueue ▸ h.sound.queue
  · exact absurd hc (by rw [show (refreshPostReq (freeEngine t)).engine.cmdReq = false from hcmd]; exact Bool.noConfusion)
  · rw [show (freeEngine t).engine.postReq = t.engine.postReq from rfl, engine, h.requests.1]
    refine Bool.eq_true_of_not_eq_false fun hnone =>
      absurd hany (Bool.eq_false_iff.mp (anyEligible_mono (fun k hk => ?_) hnone))
    rw [eligible_iff] at hk ⊢
    rw [show (freeEngine t).chans = t.chans from rfl, chans] at hk
    exact ⟨hk.1, chainHeld_mono attr held hk.2⟩

/-- R133: a command outside a batch completes. -/
theorem plainFinish_coreInv {s t : State} (h : CoreInv s) {r : CmdRec} (hs : s.seq = .executing r)
    (hm : s.batch.member = false) {g : Fin 32} {ws : List Written} (hw : WritesChain s.entries g ws t.entries)
    (batch : t.batch = s.batch) (seq : t.seq = .stalled) (cmdQueue : t.cmdQueue = s.cmdQueue)
    (ring : t.ring.length ≤ 16) (engine : t.engine = s.engine) (chans : t.chans = s.chans) :
    CoreInv (resume (arbitrate (freeEngine (plainDone ws t)))) := by
  obtain ⟨hsame, hchans⟩ := plainDone_sameCore ws t
  have hphase : s.batch.phase = .none := by
    by_contra hp
    rw [(h.member_of_executing hs).mpr hp] at hm
    cases hm
  have hnil := h.sound.batch.1 (.inl hphase)
  have hfree : ∀ i : Fin 32, s.entries[i].held = false := fun i => by
    obtain ⟨-, -, hiff, -⟩ := h.sound.undo
    rw [hnil] at hiff
    cases hx : s.entries[i].held with
    | false => rfl
    | true => exact absurd ((hiff i).mp hx) List.not_mem_nil
  have hheld : ∀ i : Fin 32, (plainDone ws t).entries[i].held = false := fun i => by
    rw [hsame.entries, State.withEntries_entries, evaluateAll_held, hw.held, hfree]
  have hbatch : (plainDone ws t).batch = s.batch := hsame.batch.trans batch
  refine arithFinish_coreInv h hs ?_ ?_ ?_ ?_ (hsame.seq.trans seq) (hsame.cmdQueue.trans cmdQueue) ?_ (fun i => ?_)
    (hsame.engine.trans engine) (hchans.trans chans) (fun k => ?_) fun k hk => ?_
  · rw [hsame.entries]; exact evaluateAll_sound hw.sound _
  · rw [hbatch, hnil]; exact undoSound_nil hheld
  · unfold BatchSound; rw [hbatch]; exact h.sound.batch
  · rw [hbatch]; exact hm
  · rw [hsame.ring]; exact ring
  · rw [committed_of_unheld (hheld i), hsame.entries, State.withEntries_entries]
    refine evaluateAll_sides fun hi x hx => ?_
    rw [hw.untouched i hi] at hx ⊢
    rw [h.sound.sides i x hx, committed_of_unheld (hfree i)]
  · rw [hsame.entries, State.withEntries_entries, evaluateAll_entry]; exact hw.attr k
  · rw [hfree k] at hk; cases hk

/-- R114: the pre-check's undo space is there at the completion. -/
theorem CoreInv.undoRoom {s : State} (h : CoreInv s) {r : CmdRec} {x : Operation} (hs : s.seq = .executing r)
    (hx : s.engine.inFlight = some x) (hm : s.batch.member = true) :
    s.batch.undo.length + chainUnheld s.entries x.target ≤ 12 := by
  have hsp := h.sound.space
  rw [spaceSound_executing hs hx, hm] at hsp
  have hnot : ¬ Config.undoDepth - s.batch.undo.length < chainUnheld s.entries x.target := by
    simpa [undoShort] using hsp
  have hlen := h.sound.undo.1
  have hdepth : Config.undoDepth = 12 := rfl
  omega

/-- R115, R126: a command of the batch completes. -/
theorem memberFinish_coreInv {s t : State} (h : CoreInv s) {r : CmdRec} {x : Operation} (hs : s.seq = .executing r)
    (hx : s.engine.inFlight = some x) (hm : s.batch.member = true) {ws : List Written}
    (hw : WritesChain s.entries x.target ws t.entries) (batch : t.batch = s.batch) (seq : t.seq = .stalled)
    (cmdQueue : t.cmdQueue = s.cmdQueue) (ring : t.ring.length ≤ 16) (engine : t.engine = s.engine)
    (chans : t.chans = s.chans) : CoreInv (resume (arbitrate (freeEngine (memberDone ws t)))) := by
  obtain ⟨hsame, hchans⟩ := memberDone_sameCore ws t
  have hp := pushWritten_pushed h.sound.store hw s.batch.undo
  have hroom := h.undoRoom hs hx hm
  have hundo : (memberDone ws t).batch.undo = (pushWritten ws t.entries s.batch.undo).2 := by
    rw [hsame.batch, State.withBatch_batch, memberBatch_undo, batch]
  have hentries : (memberDone ws t).entries = (pushWritten ws t.entries s.batch.undo).1 := by
    rw [hsame.entries, State.withBatch_entries, State.withEntries_entries, batch]
  have hmember : (memberDone ws t).batch.member = false := by
    rw [hsame.batch]; exact memberBatch_member ws t
  have hdeferred : (memberDone ws t).batch.deferred = false := by
    rw [hsame.batch]; exact memberBatch_deferred ws t
  generalize hes : pushWritten ws t.entries s.batch.undo = pushed at hp hundo hentries
  have hvalues : ∀ k : Fin 32, pushed.1[k] = { s.entries[k] with value := t.entries[k].value, held := pushed.1[k].held } :=
    fun k => (hp.entry k).trans (by rw [hw.values k])
  refine arithFinish_coreInv h hs (fun k => ?_) ?_ (batchSound_plain hmember hdeferred ?_ ?_) hmember
    (hsame.seq.trans seq) (hsame.cmdQueue.trans cmdQueue) ?_ (fun i y hy => ?_) (hsame.engine.trans engine)
    (hchans.trans chans) (fun k => ?_) fun k hk => ?_
  · rw [hentries, hp.entry k]
    exact hw.sound k
  · rw [hentries, hundo]
    exact hp.undoSound h.sound.store h.sound.undo hw hroom
  · obtain ⟨-, -, -, hphase⟩ := h.sound.batch
    rw [hsame.batch, State.withBatch_batch]
    unfold memberBatch
    rw [batch]
    have hne := hphase hm
    split
    · rintro (hx | hx) <;> cases hx
    · rintro (hx | hx) <;> rcases hne with hne | ⟨hne, -⟩ <;> cases hx.symm.trans hne
  · obtain ⟨-, htimer, -, -⟩ := h.sound.batch
    rw [hsame.batch, State.withBatch_batch]
    unfold memberBatch
    rw [batch]
    split
    · exact nofun
    · exact htimer
  · rw [hsame.ring]; exact ring
  · rw [committed_eq, hentries, hundo, hp.committedIn_eq h.sound.store h.sound.undo hw hroom]
    rw [hentries, hvalues] at hy
    rw [hvalues]
    exact h.sound.sides i y hy
  · rw [hentries, hvalues]
  · rw [hentries, hp.held k, hk]
    rfl

theorem isArith_not_restore {k : OpKind} (h : k.isArith = true) : k.isRestore = false := by
  cases k with
  | restore p => cases h
  | _ => rfl

theorem arithDone_coreInv {s : State} (h : CoreInv s) {r : CmdRec} {x : Operation} (hs : s.seq = .executing r)
    (hx : s.engine.inFlight = some x) (hk : x.kind.isArith = true) : CoreInv (arithDone r x s) := by
  have hw := opWrites_writesChain (x := x) h.sound.store (isArith_not_restore hk)
  unfold arithDone
  generalize opWrites x s.entries = w at hw
  obtain ⟨ws, es⟩ := w
  dsimp only at hw ⊢
  generalize opFlags x s.entries es ws = f
  have hring : (finishCommand r f (s.withEntries es)).ring.length ≤ 16 :=
    finishCommand_ring (s := s.withEntries es) h.sound.ring.1 (fun ho => h.sound.ring.2 (hasCommand_executing hs) ho) r f
  obtain ⟨hengine, hqueue, hbatch, hchans, -⟩ := finishCommand_frame r f (s.withEntries es)
  have hentries := finishCommand_entries r f (s.withEntries es)
  have hw' : WritesChain s.entries x.target ws ((finishCommand r f (s.withEntries es)).withSeq .stalled).entries := by
    rw [State.withSeq_entries, hentries]
    exact hw
  cases hm : s.batch.member with
  | true => exact memberFinish_coreInv h hs hx hm hw' hbatch rfl hqueue hring hengine hchans
  | false => exact plainFinish_coreInv h hs hm hw' hbatch rfl hqueue hring hengine hchans

end Sys2Proof.Machine
end

section
/-! ### RESTORE_COMPLETION keeps the core at rest -/

namespace Sys2Proof.Machine

open Sys2Proof.Safety

set_option Elab.async false

/-! #### The newest record undone (R118) -/

/-- R118: the store with the entry of an undo record restored. -/
def restoredStore (es : Vector Entry 32) (u : UndoRec) : Vector Entry 32 :=
  setEntry es u.index { es[u.index] with value := u.prior, held := false }

theorem restoredStore_get_self (es : Vector Entry 32) (u : UndoRec) :
    (restoredStore es u)[u.index] = { es[u.index] with value := u.prior, held := false } := setEntry_get_self _ _ _

theorem restoredStore_get_ne (es : Vector Entry 32) {u : UndoRec} {k : Fin 32} (h : k ≠ u.index) :
    (restoredStore es u)[k] = es[k] := setEntry_get_ne _ _ h

theorem restoredStore_attr (es : Vector Entry 32) (u : UndoRec) (k : Fin 32) :
    (restoredStore es u)[k].attr = es[k].attr := by
  by_cases hk : k = u.index
  · rw [hk, restoredStore_get_self]
  · rw [restoredStore_get_ne es hk]

theorem restoredStore_eq (es : Vector Entry 32) (u : UndoRec) :
    restoredStore es u = setEntry (opWrites ⟨.restore u.prior, u.index⟩ es).2 u.index
      { (opWrites ⟨.restore u.prior, u.index⟩ es).2[u.index] with held := false } := by
  change _ = setEntry (setEntry es u.index _) u.index { (setEntry es u.index _)[u.index] with held := false }
  rw [setEntry_get_self]
  exact (Vector.set_set ..).symm

/-- R111: the newest record is the only one of its entry. -/
theorem undoSound_head {es : Vector Entry 32} {u : UndoRec} {us : List UndoRec} (h : UndoSound es (u :: us)) :
    u.index ∉ us.map (fun v => v.index) ∧ es[u.index].held = true := by
  obtain ⟨-, hnodup, hiff, -⟩ := h
  exact ⟨(List.nodup_cons.mp hnodup).1, (hiff u.index).mpr List.mem_cons_self⟩

theorem restoredStore_undoSound {es : Vector Entry 32} {u : UndoRec} {us : List UndoRec} (h : UndoSound es (u :: us)) :
    UndoSound (restoredStore es u) us := by
  obtain ⟨hfresh, -⟩ := undoSound_head h
  obtain ⟨hlen, hnodup, hiff, hfit⟩ := h
  refine ⟨Nat.le_of_succ_le hlen, (List.nodup_cons.mp hnodup).2, fun k => ?_, fun v hv => ?_⟩
  · by_cases hk : k = u.index
    · subst hk
      rw [restoredStore_get_self]
      exact ⟨fun hx => Bool.noConfusion hx, fun hx => absurd hx hfresh⟩
    · rw [restoredStore_get_ne es hk, hiff k, List.map_cons, List.mem_cons]
      exact or_iff_right hk
  · rw [restoredStore_attr]
    exact hfit v (List.mem_cons_of_mem u hv)

theorem restoredStore_sound {es : Vector Entry 32} (hs : StoreSound es) {u : UndoRec}
    (hfit : ValueFits es[u.index].attr.width u.prior) : StoreSound (restoredStore es u) := fun k => by
  by_cases hk : k = u.index
  · subst hk
    rw [restoredStore_get_self]
    obtain ⟨-, hattr, hthresh⟩ := hs u.index
    exact ⟨hfit, hattr, hthresh⟩
  · rw [restoredStore_get_ne es hk]
    exact hs k

/-- R9, R120: a restore changes no committed value. -/
theorem restoredStore_committedIn {es : Vector Entry 32} {u : UndoRec} {us : List UndoRec} (h : UndoSound es (u :: us))
    (k : Fin 32) : committedIn (restoredStore es u) us k = committedIn es (u :: us) k := by
  by_cases hk : k = u.index
  · subst hk
    rw [committedIn_of_mem h List.mem_cons_self]
    unfold committedIn
    rw [restoredStore_get_self]
    rfl
  · unfold committedIn priorOf
    rw [restoredStore_get_ne es hk, List.find?_cons_of_neg]
    exact fun hx => hk (beq_iff_eq.mp hx).symm

/-! #### The state that a restore leaves -/

/-- R118: the newest record popped and its entry restored. -/
def undoneState (u : UndoRec) (us : List UndoRec) (s : State) : State :=
  (s.withEntries (restoredStore s.entries u)).withBatch { s.batch with undo := us }

/-- R118, R119: a restore's entry and record undone, and the unwinding ended when it was the last. -/
def restoredState (u : UndoRec) (us : List UndoRec) (s : State) : State :=
  match us with
  | [] => finishAbort (endUnwind (undoneState u [] s))
  | _ :: _ => undoneState u us s

theorem restoreDone_eq {s : State} {u : UndoRec} {us : List UndoRec} (hu : s.batch.undo = u :: us) :
    restoreDone ⟨.restore u.prior, u.index⟩ s = resume (arbitrate (freeEngine (refreshPostReq (restoredState u us s)))) := by
  unfold restoreDone restoredState undoneState
  rw [restoredStore_eq]
  dsimp only
  rw [hu]
  cases us <;> rfl

theorem finishAbort_frame (s : State) :
    (finishAbort s).entries = s.entries ∧ (finishAbort s).engine = s.engine ∧ (finishAbort s).cmdQueue = s.cmdQueue
      ∧ (finishAbort s).batch = s.batch ∧ (finishAbort s).chans = s.chans := by
  unfold finishAbort
  split
  · rename_i r _
    obtain ⟨hengine, hqueue, hbatch, hchans, -⟩ := finishCommand_frame r s.flags s
    exact ⟨finishCommand_entries r s.flags s, hengine, hqueue, hbatch, hchans⟩
  · exact ⟨rfl, rfl, rfl, rfl, rfl⟩

/-- R119, R101: at the end of its unwinding the ABORT in hand completes. -/
theorem finishAbort_seq {s : State} {a : Option CmdRec} (h : s.seq = .unwinding a) :
    (finishAbort s).seq = .unwinding none := by
  unfold finishAbort
  rw [h]
  cases a with
  | none => exact h
  | some r => rfl

theorem finishAbort_ring {s : State} (h : RingSound s) : (finishAbort s).ring.length ≤ 16 := by
  unfold finishAbort
  split
  · rename_i r hs
    exact finishCommand_ring h.1 (fun ho => h.2 (by simp [hasCommand, hs, inHand]) ho) r s.flags
  · exact h.1

/-- R118: while a restore is in flight the sequencer is UNWINDING, the command side has no request, the timer is stopped
and no command of the batch is in flight. -/
structure Unwinder (s : State) (a : Option CmdRec) : Prop where
  phase : s.batch.phase = .unwinding
  seq : s.seq = .unwinding a
  member : s.batch.member = false
  deferred : s.batch.deferred = false
  timer : s.batch.timer.isSome ≠ true
  cmdReq : s.engine.cmdReq = false

theorem CoreInv.unwinding_seq {s : State} (h : CoreInv s) (hp : s.batch.phase = .unwinding)
    (hexec : isExecuting s.seq = false) : ∃ a, s.seq = .unwinding a := by
  have hh := h.sound.hand
  cases hs : s.seq with
  | unwinding a => exact ⟨a, rfl⟩
  | executing r => rw [hs] at hexec; cases hexec
  | waiting r =>
    obtain ⟨-, ⟨hx, -⟩ | ⟨hx, -⟩⟩ := (handSound_waiting hs).mp hh <;> cases hx.symm.trans hp
  | idle => simp [handSound, hs, hp] at hh
  | stalled => simp [handSound, hs, hp] at hh

theorem CoreInv.unwinder {s : State} (h : CoreInv s) {u : UndoRec}
    (hx : s.engine.inFlight = some ⟨.restore u.prior, u.index⟩) : ∃ a us, Unwinder s a ∧ s.batch.undo = u :: us := by
  have hf := h.sound.flight
  rw [flightSound_restore hx] at hf
  simp only [Bool.and_eq_true, beq_iff_eq, Bool.not_eq_true'] at hf
  obtain ⟨⟨hp, hhead⟩, hexec⟩ := hf
  obtain ⟨a, hs⟩ := h.unwinding_seq hp hexec
  obtain ⟨us, hu⟩ := List.head?_eq_some_iff.mp hhead
  have hm : s.batch.member = false := ((handSound_unwinding hs).mp h.sound.hand).2
  obtain ⟨-, htimer, hdef, -⟩ := h.sound.batch
  refine ⟨a, us, ⟨hp, hs, hm, ?_, fun ht => ?_, ?_⟩, hu⟩
  · cases hx : s.batch.deferred with
    | false => rfl
    | true => exact absurd (hdef hx).1 (by rw [hm]; exact Bool.noConfusion)
  · cases hp.symm.trans (htimer ht)
  · rw [h.requests.2.1, wantsCommand_eq, hs]
    unfold restoring
    rw [hx]
    simp [isWaiting]

/-- R118: the core once a restore has completed and the engine is FREE. -/
theorem restored_coreSound {s t : State} (h : CoreInv s) {u : UndoRec} {us : List UndoRec} (hu : s.batch.undo = u :: us)
    (entries : t.entries = restoredStore s.entries u) (undo : t.batch.undo = us) (member : t.batch.member = false)
    (batch : BatchSound t) (cmdQueue : t.cmdQueue = s.cmdQueue) (cmdReq : t.engine.cmdReq = false)
    (idle : isWaiting t.seq = false ∧ isExecuting t.seq = false) (hand : hasCommand t = true → handSound t = true)
    (ring : RingSound t) : CoreSound (freeEngine (refreshPostReq t)) := by
  have hus := h.sound.undo
  rw [hu] at hus
  refine ⟨?_, ?_, batch, hand, fun _ => member, ?_, spaceSound_plain member, cmdQueue ▸ h.sound.queue, ring,
    fun i x hx => ?_, rfl, fun hc => ?_⟩
  · obtain ⟨-, -, -, hfit⟩ := hus
    exact entries ▸ restoredStore_sound h.sound.store (hfit u List.mem_cons_self)
  · exact entries ▸ undo ▸ restoredStore_undoSound hus
  · rw [flightSound_free rfl]
    exact congrArg not idle.2
  · have hside := h.sound.sides i
    rw [committed_eq, hu, ← restoredStore_committedIn hus i] at hside
    have hsame : committed (freeEngine (refreshPostReq t)) i = committedIn (restoredStore s.entries u) us i := by
      rw [committed_eq, ← entries, ← undo]
      rfl
    rw [hsame]
    change x ∈ t.entries[i].threshold at hx
    change t.entries[i].side = _
    rw [entries] at hx ⊢
    have hkeep : (restoredStore s.entries u)[i].threshold = s.entries[i].threshold
        ∧ (restoredStore s.entries u)[i].side = s.entries[i].side := by
      by_cases hi : i = u.index
      · rw [hi, restoredStore_get_self]
        exact ⟨rfl, rfl⟩
      · rw [restoredStore_get_ne _ hi]
        exact ⟨rfl, rfl⟩
    rw [hkeep.1] at hx
    rw [hkeep.2]
    exact hside x hx
  · exact absurd hc (by rw [show (freeEngine (refreshPostReq t)).engine.cmdReq = t.engine.cmdReq from rfl, cmdReq]
                        exact Bool.noConfusion)

/-- R119: the core after the last restore of an unwinding. -/
theorem unwindingEnded_coreInv {s t : State} (h : CoreInv s) {u : UndoRec} (hu : s.batch.undo = [u]) {a : Option CmdRec}
    (hw : Unwinder s a) (entries : t.entries = restoredStore s.entries u)
    (batch : t.batch = { s.batch with phase := endPhase s.batch.cause, undo := [] }) (engine : t.engine = s.engine)
    (cmdQueue : t.cmdQueue = s.cmdQueue) (seq : t.seq = s.seq) (ring : RingSound t) :
    CoreInv (resume (arbitrate (freeEngine (refreshPostReq (finishAbort t))))) := by
  obtain ⟨hentries, hengine, hqueue, hbatch, -⟩ := finishAbort_frame t
  have hb := hbatch.trans batch
  have hseq : (finishAbort t).seq = .unwinding none := finishAbort_seq (seq.trans hw.seq)
  have hphase : (finishAbort t).batch.phase ≠ .unwinding := by
    rw [hb]
    rcases endPhase_cases s.batch.cause with hend | hend <;> rw [hend] <;> exact nofun
  have hempty : hasCommand (finishAbort t) = false := by simp [hasCommand, hseq, inHand]
  have hcmd : (finishAbort t).engine.cmdReq = false := by rw [hengine, engine]; exact hw.cmdReq
  have hsound : BatchSound (finishAbort t) := by
    unfold BatchSound
    rw [hb]
    exact ⟨fun _ => rfl, fun ht => absurd ht hw.timer, fun hx => absurd hx (by rw [hw.deferred]; exact Bool.noConfusion),
      fun hx => absurd hx (by rw [hw.member]; exact Bool.noConfusion)⟩
  refine completion_coreInv (restored_coreSound (t := finishAbort t) h hu (hentries.trans entries) (by rw [hb])
    (by rw [hb]; exact hw.member) hsound (hqueue.trans cmdQueue) hcmd (by rw [hseq]; exact ⟨rfl, rfl⟩) (fun hh => ?_)
    (ringSound_of_empty hempty (finishAbort_ring ring))) rfl hcmd (fun ha => ha) (fun hx => absurd hx hphase) fun _ => hempty
  rw [hempty] at hh
  cases hh

theorem restoreDone_coreInv {s : State} (h : CoreInv s) {u : UndoRec}
    (hx : s.engine.inFlight = some ⟨.restore u.prior, u.index⟩) : CoreInv (restoreDone ⟨.restore u.prior, u.index⟩ s) := by
  obtain ⟨a, us, hw, hu⟩ := h.unwinder hx
  rw [restoreDone_eq hu]
  cases us with
  | nil => exact unwindingEnded_coreInv h hu hw rfl rfl rfl rfl rfl h.sound.ring
  | cons v vs =>
    change CoreInv (resume (arbitrate (freeEngine (refreshPostReq (undoneState u (v :: vs) s)))))
    have hseq : (undoneState u (v :: vs) s).seq = .unwinding a := hw.seq
    refine completion_coreInv (restored_coreSound (t := undoneState u (v :: vs) s) h hu rfl rfl hw.member
      (batchSound_plain hw.member hw.deferred (fun hx => ?_) fun ht => absurd ht hw.timer) rfl hw.cmdReq ?_
      (fun _ => (handSound_unwinding hseq).mpr ⟨hw.phase, hw.member⟩) h.sound.ring) rfl hw.cmdReq (fun ha => ha)
      (fun _ hx => nomatch hx) fun hx => absurd hw.phase hx
    · change s.batch.phase = _ ∨ s.batch.phase = _ at hx
      rw [hw.phase] at hx
      rcases hx with hx | hx <;> cases hx
    · rw [hseq]; exact ⟨rfl, rfl⟩

end Sys2Proof.Machine
end

section
/-! ### What happens outside the core, and the events of one instant -/

namespace Sys2Proof.Machine

open Sys2Proof.Safety

set_option Elab.async false

/-! #### What leaves the core alone -/

/-- The core and the channels are the same. -/
structure Outside (s t : State) : Prop extends SameCore s t where
  chans : t.chans = s.chans := by rfl

theorem Outside.trans {s t u : State} (h : Outside s t) (h' : Outside t u) : Outside s u :=
  ⟨h.toSameCore.trans h'.toSameCore, h'.chans.trans h.chans⟩

theorem Outside.eligible {s t : State} (h : Outside s t) : anyEligible t = anyEligible s :=
  anyEligible_of_eq h.entries h.chans

theorem Outside.coreInv {s t : State} (e : Outside s t) (h : CoreInv s) : CoreInv t := h.of_same e.toSameCore e.eligible

theorem appendEvent_outside (b : EventBody) (s : State) : Outside s (appendEvent b s) :=
  ⟨appendEvent_sameCore b s, appendEvent_chans b s⟩

theorem tryStart_outside (n : Nat) (s : State) : Outside s (tryStart n s) := by
  rw [tryStart_eq]
  exact {}

theorem appendJob_outside (j : Job) (s : State) : Outside s (appendJob j s) := by
  rw [appendJob_eq]
  exact {}

theorem dropHead_outside (k : EventKind) (d : Job → Byte) (l : LinkState) (s : State) : Outside s (dropHead k d l s) := by
  obtain ⟨q, f, h⟩ := dropHead_eq k d l s
  rw [h]
  exact {}

theorem setFrame_outside (f : Frame) (s : State) : Outside s (setFrame f s) := by
  rw [setFrame_eq]
  exact {}

theorem completeFrame_outside (f : Frame) (s : State) : Outside s (completeFrame f s) :=
  (dropHead_outside _ _ _ s).trans (tryStart_outside _ _)

theorem frameEnd_outside (s : State) : Outside s (frameEnd s) := by
  unfold frameEnd
  split
  · exact completeFrame_outside _ s
  · exact {}

theorem linkTimeout_outside (s : State) : Outside s (linkTimeout s) := by
  unfold linkTimeout
  split
  · exact (dropHead_outside _ _ _ s).trans (tryStart_outside _ _)
  · exact {}

theorem drivenAdvance_outside (s : State) : Outside s (drivenAdvance s) := by
  unfold drivenAdvance
  split
  · split
    · exact {}
    · exact setFrame_outside _ s
  · exact {}

theorem timeoutLower_outside (s : State) : Outside s (timeoutLower s) := by
  unfold timeoutLower
  split
  · split
    · split
      · exact {}
      · exact setFrame_outside _ s
    · exact {}
  · exact {}

theorem fallingEdge_outside (s : State) : Outside s (fallingEdge s) := by
  unfold fallingEdge
  split
  · split <;> exact {}
  · split <;> exact {}
  · exact {}

theorem risingEdge_outside (s : State) : Outside s (risingEdge s) := by
  unfold risingEdge
  split
  · split <;> exact {}
  · split
    · split
      · exact completeFrame_outside _ s
      · exact {}
    · exact {}
  · exact {}

theorem periodicJob_outside (s : State) : Outside s (periodicJob s) := by
  unfold periodicJob
  split
  · exact {}
  · split
    · exact appendEvent_outside _ s
    · exact appendJob_outside _ s

theorem intervalEvent_outside (s : State) : Outside s (intervalEvent s) := by
  unfold intervalEvent
  split
  · exact appendEvent_outside _ s
  · exact {}

theorem popEvents_outside (s : State) : Outside s (popEvents s) := by
  obtain ⟨q, f, h⟩ := popEvents_eq s
  rw [h]
  exact {}

theorem writeLinkctrl_outside (v : Byte) (s : State) : Outside s (writeLinkctrl v s) := by
  rcases writeLinkctrl_cases v s with ⟨l, h⟩ | h <;> rw [h]
  · exact {}
  · exact Outside.trans {} (dropHead_outside _ _ _ _)

theorem withLink_outside (l : Link) (s : State) : Outside s (s.withLink l) := {}

theorem withWindow_outside (w : Window) (s : State) : Outside s (s.withWindow w) := {}

theorem withInterval_outside (x : IntervalTimer) (s : State) : Outside s (s.withInterval x) := {}

theorem withBusOut_outside (b : Byte) (s : State) : Outside s (s.withBusOut b) := {}

theorem readReg_outside (a : Nat) (s : State) : Outside s (readReg a s) :=
  readReg_cases (P := Outside s) (withBusOut_outside 0 s) (fun _ _ _ _ _ _ =>
    (((withLink_outside _ s).trans (withWindow_outside _ _)).trans (withInterval_outside _ _)).trans
      (withBusOut_outside _ _)) a

theorem phaseToState_outside (s : State) : Outside s (phaseToState s) := {}

/-! #### Samples and the interval expiry: the channels' units and targets are the same -/

/-- The core is the same, and so is every channel's number of units and its target. -/
structure UnitsKept (s t : State) : Prop extends SameCore s t where
  units : ∀ ch : Fin 8, t.chans[ch].units = s.chans[ch].units
  record : ∀ ch : Fin 8, t.chans[ch].record = s.chans[ch].record

theorem UnitsKept.coreInv {s t : State} (e : UnitsKept s t) (h : CoreInv s) : CoreInv t :=
  h.of_same e.toSameCore (anyEligible_congr fun ch =>
    eligible_congr (e.units ch) (fun _ => by rw [e.record ch]) fun g => by rw [e.entries])

theorem UnitsKept.trans_outside {s t u : State} (h : UnitsKept s t) (h' : Outside t u) : UnitsKept s u :=
  ⟨h.toSameCore.trans h'.toSameCore, fun ch => by rw [h'.chans]; exact h.units ch,
    fun ch => by rw [h'.chans]; exact h.record ch⟩

theorem sampleChan_units (raw : Bool) (c : Channel) :
    (sampleChan raw c).1.units = c.units ∧ (sampleChan raw c).1.record = c.record := by
  unfold sampleChan
  split
  · exact ⟨rfl, rfl⟩
  · exact ⟨rfl, rfl⟩
  · split
    · exact ⟨rfl, rfl⟩
    · split
      · exact ⟨rfl, rfl⟩
      · dsimp only
        split
        · unfold countEdge
          split <;> exact ⟨rfl, rfl⟩
        · exact ⟨rfl, rfl⟩

theorem sampledState_unitsKept (levels : Byte) (s : State) : UnitsKept s (sampledState levels s) := by
  have hd := (drivenAdvance_outside s).toSameCore
  refine ⟨hd.trans {}, fun ch => ?_, fun ch => ?_⟩ <;>
    rw [show (sampledState levels s).chans = (sampleAll levels s.chans).1 from rfl, sampleAll_get]
  · exact (sampleChan_units _ _).1
  · exact (sampleChan_units _ _).2

theorem intervalReload_unitsKept (s : State) : UnitsKept s (intervalReload s) := by
  refine UnitsKept.trans_outside ⟨{}, fun ch => ?_, fun ch => ?_⟩ (periodicJob_outside _) <;>
    rw [State.withChans_chans, Fin.getElem_fin, Vector.getElem_map] <;> rfl

/-! #### Arrivals -/

theorem schedule_coreInv {s t : State} (h : CoreInv s) (e : SameCore s t) : CoreInv (schedule t) :=
  h.of_settled (schedule_settled h.settled e) ((congrArg State.batch (schedule_eq t)).trans e.batch)
    ((congrArg State.cmdQueue (schedule_eq t)).trans e.cmdQueue) ((congrArg State.ring (schedule_eq t)).trans e.ring)
    ((schedule_seqKept t).of_seq e.seq)

theorem unitArrives_sameCore (ch : Fin 8) (s : State) : ∃ t, SameCore s t ∧ unitArrives ch s = schedule t := by
  unfold unitArrives
  dsimp only
  refine ⟨_, ?_, rfl⟩
  split
  · exact SameCore.trans {} (appendEvent_sameCore _ _)
  · exact {}

theorem unitArrives_coreInv {s : State} (h : CoreInv s) (ch : Fin 8) : CoreInv (unitArrives ch s) := by
  obtain ⟨t, e, ht⟩ := unitArrives_sameCore ch s
  rw [ht]
  exact schedule_coreInv h e

theorem arrive_coreInv {s : State} (h : CoreInv s) : CoreInv (arrive s) :=
  have hs := arrive_settled h.settled.toCoreSound h.settled.heard
  have hbatch := congrArg State.batch (arrive_eq s)
  have hqueue := congrArg State.cmdQueue (arrive_eq s)
  have hring := congrArg State.ring (arrive_eq s)
  h.of_settled hs hbatch hqueue hring (arrive_seqKept s)

/-! #### The batch timer (R124–R126) -/

/-- The timer and the deferred marker of the batch unit. -/
theorem CoreInv.withTimes {s : State} (h : CoreInv s) (x : Option Nat) (d : Bool)
    (hb : BatchSound (s.withBatch { s.batch with timer := x, deferred := d })) :
    CoreInv (s.withBatch { s.batch with timer := x, deferred := d }) := by
  obtain ⟨⟨h1, h2, -, h4, h5, h6, h7, h8, h9⟩, ⟨h10, h11, h12⟩, h13⟩ := h
  exact ⟨⟨h1, h2, hb, h4, h5, h6, h7, h8, h9⟩, ⟨h10, h11, h12⟩, h13⟩

/-- R113: while a batch is OPEN a command in hand belongs to it. -/
theorem CoreInv.empty_of_opened {s : State} (h : CoreInv s) (hp : s.batch.phase = .opened) (hm : s.batch.member = false) :
    hasCommand s = false := by
  have hh := h.sound.hand
  cases hs : s.seq with
  | waiting r =>
    obtain ⟨-, ⟨hx, -⟩ | ⟨-, hx⟩⟩ := (handSound_waiting hs).mp hh
    · cases hp.symm.trans hx
    · cases hm.symm.trans hx
  | executing r =>
    have := (h.member_of_executing hs).mpr (by rw [hp]; exact nofun)
    cases hm.symm.trans this
  | unwinding a => cases hp.symm.trans ((handSound_unwinding hs).mp hh).1
  | _ => simp [hasCommand, hs, inHand]

/-- R125, R126: the expiry is deferred, or the void opened and its unwinding begun. -/
theorem batchExpiry_coreInv {s : State} (h : CoreInv s) (ht : s.batch.timer.isSome = true) : CoreInv (batchExpiry s) := by
  have hp := h.sound.batch.2.1 ht
  unfold batchExpiry
  split
  · rename_i hm
    obtain ⟨h1, -, -, h4⟩ := h.sound.batch
    exact h.withTimes none true ⟨h1, nofun, fun _ => ⟨hm, hp⟩, h4⟩
  · rename_i hm
    have hsettled := voidBegun_settled h.settled (h.empty_of_opened hp (Bool.eq_false_iff.mpr hm))
      (by rw [hp]; exact nofun) 2
    rw [resume_eq, if_pos (openVoid_phase 2 s)]
    exact hsettled.handOn true

/-! #### The events of one instant in a free order (log 6) -/

theorem flatten_set_perm {α : Type} {a : α} {rest : List α} : ∀ {threads : List (List α)} {k : Nat},
    threads[k]? = some (a :: rest) → threads.flatten.Perm (a :: (threads.set k rest).flatten)
  | [], k, h => by cases h
  | t :: ts, 0, h => by
    obtain rfl : t = a :: rest := by simpa using h
    exact .refl _
  | t :: ts, k + 1, h => by
    have ih := flatten_set_perm (threads := ts) (k := k) (by simpa using h)
    exact (ih.append_left t).trans List.perm_middle

/-- What holds of the actions still to be run and the state, in whatever order they are run, holds when they are done. -/
theorem interleave_actions {α : Type} (run : α → State → State) (I : List α → State → Prop)
    (hrun : ∀ a rest s, I (a :: rest) s → I rest (run a s)) (hperm : ∀ l l' s, l.Perm l' → I l s → I l' s)
    (hfree : ∀ l s n, I l s → I l (s.withFreeCount n)) : ∀ (fuel : Nat) (threads : List (List α)) (s : State),
    I threads.flatten s → ∃ rest, I rest (interleave run fuel threads s)
  | 0, threads, s, h => ⟨_, h⟩
  | fuel + 1, threads, s, h => by
    have hfold : ∀ (l : List α) (s : State), I l s → I [] (l.foldl (fun s a => run a s) s) := by
      intro l
      induction l with
      | nil => exact fun _ h => h
      | cons a l ih => exact fun s h => ih _ (hrun a l s h)
    have hlive : I (threads.filter fun t => !t.isEmpty).flatten s := by
      rw [List.flatten_filter_not_isEmpty]
      exact h
    unfold interleave
    split
    · exact ⟨_, h⟩
    · rename_i t heq
      rw [heq, List.flatten_cons, List.flatten_nil, List.append_nil] at hlive
      exact ⟨_, hfold t s hlive⟩
    · dsimp only
      split
      · rename_i a rest hk
        exact interleave_actions run I hrun hperm hfree fuel _ _
          (hrun a _ _ (hfree _ _ _ (hperm _ _ _ (flatten_set_perm hk) hlive)))
      · exact ⟨_, h⟩

/-- What the run of an instant's events needs: at most one of them is the batch timer's expiry, and the timer is running
until then. -/
def ExpiryDue (l : List TimedEvent) (s : State) : Prop :=
  l.count .batchExpiry ≤ 1 ∧ (.batchExpiry ∈ l → s.batch.timer.isSome = true)

theorem ExpiryDue.perm {l l' : List TimedEvent} {s : State} (h : ExpiryDue l s) (hp : l.Perm l') : ExpiryDue l' s := by
  obtain ⟨hcount, hmem⟩ := h
  exact ⟨by rw [← hp.count_eq]; exact hcount, fun hx => hmem (hp.mem_iff.mpr hx)⟩

theorem ExpiryDue.batch {a : TimedEvent} {l : List TimedEvent} {s t : State} (h : ExpiryDue (a :: l) s)
    (hb : t.batch = s.batch) : ExpiryDue l t := by
  obtain ⟨hcount, hmem⟩ := h
  exact ⟨List.count_le_count_cons.trans hcount, fun hx => by rw [hb]; exact hmem (List.mem_cons_of_mem a hx)⟩

theorem unitArrives_batch (ch : Fin 8) (s : State) : (unitArrives ch s).batch = s.batch := by
  obtain ⟨t, e, h⟩ := unitArrives_sameCore ch s
  rw [h]
  exact (congrArg State.batch (schedule_eq t)).trans e.batch

theorem runTimed_coreInv {e : TimedEvent} {l : List TimedEvent} {s : State} (h : CoreInv s) (hx : ExpiryDue (e :: l) s) :
    CoreInv (runTimed e s) ∧ ExpiryDue l (runTimed e s) := by
  cases e with
  | unit ch => exact ⟨unitArrives_coreInv h ch, hx.batch (unitArrives_batch ch s)⟩
  | frameEnd => exact ⟨(frameEnd_outside s).coreInv h, hx.batch (frameEnd_outside s).batch⟩
  | intervalReload => exact ⟨(intervalReload_unitsKept s).coreInv h, hx.batch (intervalReload_unitsKept s).batch⟩
  | intervalEvent => exact ⟨(intervalEvent_outside s).coreInv h, hx.batch (intervalEvent_outside s).batch⟩
  | linkTimeout => exact ⟨(linkTimeout_outside s).coreInv h, hx.batch (linkTimeout_outside s).batch⟩
  | batchExpiry =>
    obtain ⟨hcount, hmem⟩ := hx
    rw [List.count_cons_self] at hcount
    have hnone : .batchExpiry ∉ l := List.count_eq_zero.mp (Nat.le_zero.mp (Nat.le_of_succ_le_succ hcount))
    exact ⟨batchExpiry_coreInv h (hmem List.mem_cons_self), Nat.le_of_succ_le hcount, fun hx => absurd hx hnone⟩

theorem runThreads_coreInv {threads : List (List TimedEvent)} {s : State} (h : CoreInv s)
    (hx : ExpiryDue threads.flatten s) : CoreInv (runThreads runTimed threads s) := by
  obtain ⟨_, hdone, -⟩ := interleave_actions runTimed (fun l s => CoreInv s ∧ ExpiryDue l s)
    (fun a rest s ⟨h, hx⟩ => runTimed_coreInv h hx) (fun l l' s hp ⟨h, hx⟩ => ⟨h, hx.perm hp⟩)
    (fun l s n ⟨h, hx⟩ => ⟨Outside.coreInv {} h, hx⟩) _ threads s ⟨h, hx⟩
  exact hdone

theorem batchLower_timer (b : Batch) :
    batchLower b = { b with timer := (batchLower b).timer } ∧ (batchLower b).timer.isSome = b.timer.isSome := by
  unfold batchLower
  split
  · rename_i n hn
    split
    · exact ⟨rfl, rfl⟩
    · exact ⟨rfl, by rw [hn]; rfl⟩
  · exact ⟨rfl, rfl⟩

theorem lowerCounts_batch (s : State) : (lowerCounts s).batch = batchLower s.batch :=
  (timeoutLower_outside _).batch

theorem lowerCounts_coreInv {s : State} (h : CoreInv s) : CoreInv (lowerCounts s) := by
  obtain ⟨hlower, hsome⟩ := batchLower_timer s.batch
  have hbatch : CoreInv (s.withBatch (batchLower s.batch)) := by
    rw [hlower]
    obtain ⟨h1, h2, h3, h4⟩ := h.sound.batch
    exact h.withTimes _ _ ⟨h1, fun ht => h2 (hsome ▸ ht), h3, h4⟩
  exact (Outside.trans {} (timeoutLower_outside _)).coreInv hbatch

/-- R150: of a tick's expiries only the batch timer's own consumer brings the batch timer's. -/
theorem dueExpiries_count (s : State) : (dueExpiries s).flatten.count .batchExpiry ≤ 1
    ∧ (.batchExpiry ∈ (dueExpiries s).flatten → batchDue s.batch = true) := by
  unfold dueExpiries
  rw [List.flatten_cons, List.count_append, List.mem_append]
  generalize hl : List.flatten _ = others
  have hno : .batchExpiry ∉ others := by
    rw [← hl]
    simp
  rw [List.count_eq_zero_of_not_mem hno]
  refine ⟨?_, fun h => ?_⟩
  · split <;> decide
  · have hmem := h.resolve_right hno
    split at hmem
    · assumption
    · cases hmem

theorem batchDue_timer {b : Batch} (h : batchDue b = true) : b.timer.isSome = true := by
  unfold batchDue at h
  split at h
  · rename_i n hn
    rw [hn]
    rfl
  · cases h

/-- R150: a tick keeps the core at rest, whatever else the instant brings. -/
theorem deliverTick_coreInv {others : List (List TimedEvent)} {s : State} (h : CoreInv s)
    (hno : .batchExpiry ∉ others.flatten) : CoreInv (deliverTick others s) := by
  obtain ⟨hcount, hdue⟩ := dueExpiries_count s
  refine runThreads_coreInv (lowerCounts_coreInv h) ⟨?_, fun hx => ?_⟩
  · rw [List.flatten_append, List.count_append, List.count_eq_zero_of_not_mem hno, Nat.zero_add]
    exact hcount
  · rw [List.flatten_append, List.mem_append] at hx
    rw [lowerCounts_batch, (batchLower_timer s.batch).2]
    exact batchDue_timer (hdue (hx.resolve_left hno))

theorem sampleThreads_no_expiry (levels : Byte) (s : State) : .batchExpiry ∉ (sampleThreads levels s).flatten := by
  unfold sampleThreads
  rw [List.flatten_cons, List.mem_append]
  rintro (h | h)
  · split at h <;> simp at h
  · simp at h

theorem execSample_coreInv {levels : Byte} {s t : State} (h : CoreInv s) (ht : execSample levels s = .next t) :
    CoreInv t := by
  have hs := (sampledState_unitsKept levels s).coreInv h
  have hno := sampleThreads_no_expiry levels s
  rw [execSample_eq] at ht
  cases ht
  split
  · exact deliverTick_coreInv hs hno
  · exact runThreads_coreInv hs ⟨(List.count_eq_zero_of_not_mem hno).trans_le (Nat.zero_le 1), fun hx => absurd hx hno⟩

theorem execUnitArrival_coreInv {ch : Fin 8} {s t : State} (h : CoreInv s) (ht : execUnitArrival ch s = .next t) :
    CoreInv t := by
  cases ht
  split
  · obtain ⟨u, e, hu⟩ := unitArrives_sameCore ch (s.withChans (setChan s.chans ch
      { s.chans[ch] with divCount := s.chans[ch].record.divider }))
    rw [hu]
    exact schedule_coreInv h (SameCore.trans {} e)
  · exact h

end Sys2Proof.Machine
end

section
/-! ### The invariant is kept by every step -/

namespace Sys2Proof.Machine

open Sys2Proof.Safety

set_option Elab.async false

/-! #### The two queues (R70, R103) -/

theorem Settled.withCmdQueue {s : State} (h : Settled s) {q : List CmdRec} (hq : QueueSound q) :
    Settled (s.withCmdQueue q) :=
  ⟨h.of_store rfl hq rfl h.hand h.empty h.flight h.space h.ring h.postReq h.cmdReq, h.heard, h.decided⟩

theorem Settled.withRing {s : State} (h : Settled s) {q : List Completion} (hq : RingSound (s.withRing q)) :
    Settled (s.withRing q) :=
  ⟨h.of_store rfl h.queue rfl h.hand h.empty h.flight h.space hq h.postReq h.cmdReq, h.heard, h.decided⟩

/-- R70: a record accepted is well formed and finds a place. -/
theorem accepted_spec {s : State} (h : submitVerdict s = .accepted) :
    malformed s.window.staging = false ∧ s.cmdQueue.length < 16 := by
  unfold submitVerdict at h
  split at h
  · cases h
  · split at h
    · cases h
    · exact ⟨Bool.eq_false_iff.mpr ‹_›, Nat.lt_of_not_le ‹_›⟩

theorem submitWrite_coreInv {s : State} (h : CoreInv s) : CoreInv (submitWrite s) := by
  have hw : ∀ w, CoreInv (s.withWindow w) := fun w => (withWindow_outside w s).coreInv h
  unfold submitWrite
  dsimp only
  split
  · rename_i hv
    obtain ⟨hwell, hroom⟩ := accepted_spec hv
    have hqueue : QueueSound (s.cmdQueue ++ [s.window.staging]) := by
      obtain ⟨-, hall⟩ := h.sound.queue
      refine ⟨List.length_append.trans_le hroom, fun r hr => ?_⟩
      rcases List.mem_append.mp hr with hr | hr
      · exact hall r hr
      · rw [List.mem_singleton.mp hr]
        exact hwell
    rw [recheck_eq]
    exact ((hw _).settled.withCmdQueue hqueue).handOn false
  · exact hw _

theorem popRing_coreInv {s : State} (h : CoreInv s) : CoreInv (popRing s) := by
  unfold popRing
  split
  · exact h
  · rename_i r rest hr
    have hring : RingSound (s.withRing rest) := by
      obtain ⟨hlen, hroom⟩ := h.sound.ring
      rw [hr, List.length_cons] at hlen hroom
      exact ⟨Nat.le_of_succ_le hlen, fun hc ho => Nat.lt_of_succ_lt (hroom hc ho)⟩
    rw [recheck_eq]
    exact (h.settled.withRing hring).handOn false

/-! #### The interface reset (R107, R128–R130) -/

/-- R107, R129: the batch unit as a reset finds it, once a command that is not EXECUTING has been discarded. -/
def discardMember (executing : Bool) (s : State) : State :=
  s.withBatch { s.batch with member := executing, deferred := false }

/-- R128–R130: in every batch state the reset sets, or finds, the same member and deferred markers. -/
theorem resetBatch_discardMember {s : State} {executing : Bool}
    (h : s.batch.phase ≠ .opened → s.batch.member = executing ∧ s.batch.deferred = false) :
    resetBatch executing s = resetBatch executing (discardMember executing s) := by
  by_cases hp : s.batch.phase = .opened
  · unfold resetBatch
    rw [show (discardMember executing s).batch.phase = s.batch.phase from rfl, hp]
    rfl
  · obtain ⟨hm, hd⟩ := h hp
    have hsame : discardMember executing s = s := by
      unfold discardMember
      rw [← hm, ← hd]
      rfl
    rw [hsame]

theorem memberExecuting_of_idle {s : State} (h : isExecuting s.seq = false) : memberExecuting s = false := by
  unfold memberExecuting
  cases hs : s.seq with
  | executing r => rw [hs] at h; cases h
  | _ => exact Bool.and_false _

theorem memberExecuting_of_executing {s : State} {r : CmdRec} (h : s.seq = .executing r) :
    memberExecuting s = s.batch.member := by
  unfold memberExecuting
  rw [h]
  exact Bool.and_true _

/-- R113: outside an OPEN batch a command that is not EXECUTING is no member, and no expiry is deferred. -/
theorem CoreInv.member_of_not_opened {s : State} (h : CoreInv s) (hp : s.batch.phase ≠ .opened) :
    s.batch.member = memberExecuting s ∧ s.batch.deferred = false := by
  obtain ⟨-, -, hdef, -⟩ := h.sound.batch
  have hd : s.batch.deferred = false := by
    cases hx : s.batch.deferred with
    | false => rfl
    | true => exact absurd (hdef hx).2 hp
  refine ⟨?_, hd⟩
  have hh := h.sound.hand
  cases hs : s.seq with
  | executing r => exact (memberExecuting_of_executing hs).symm
  | waiting r =>
    rw [memberExecuting_of_idle (by rw [hs]; rfl)]
    obtain ⟨-, ⟨-, hm⟩ | ⟨hx, -⟩⟩ := (handSound_waiting hs).mp hh
    · exact hm
    · exact absurd hx hp
  | unwinding a =>
    rw [memberExecuting_of_idle (by rw [hs]; rfl)]
    exact ((handSound_unwinding hs).mp hh).2
  | _ =>
    rw [memberExecuting_of_idle (by rw [hs]; rfl)]
    exact h.settled.empty (by simp [hasCommand, hs, inHand])

/-- R107: the host-facing queues emptied, with nothing owed. -/
theorem Settled.emptied {s t : State} (h : Settled s) (entries : t.entries = s.entries) (engine : t.engine = s.engine)
    (batch : t.batch = s.batch) (seq : t.seq = s.seq) (chans : t.chans = s.chans) (cmdQueue : t.cmdQueue = [])
    (ring : t.ring = []) : Settled t := by
  have hq : Settled ((s.withCmdQueue []).withRing []) :=
    (h.withCmdQueue ⟨Nat.zero_le _, List.forall_mem_nil _⟩).withRing ⟨Nat.zero_le _, fun _ _ => Nat.zero_lt_succ _⟩
  have ho : Settled (((s.withCmdQueue []).withRing []).withOwed t.owed) :=
    ⟨hq.of_store rfl hq.queue rfl hq.hand hq.empty hq.flight hq.space ⟨Nat.zero_le _, fun _ _ => Nat.zero_lt_succ _⟩
      hq.postReq hq.cmdReq, hq.heard, hq.decided⟩
  exact ho.of_same ⟨entries, engine, cmdQueue, seq, rfl, ring, batch⟩ (anyEligible_of_eq entries chans)

/-- A deferred expiry forgotten. -/
theorem Settled.undeferred {s : State} (h : Settled s) : Settled (discardMember s.batch.member s) := by
  obtain ⟨⟨h1, h2, ⟨hundo, htimer, -, hmember⟩, h4, h5, h6, h7, h8, h9, h10, h11, h12⟩, h13, h14⟩ := h
  exact ⟨⟨h1, h2, ⟨hundo, htimer, nofun, hmember⟩, h4, h5, h6, h7, h8, h9, h10, h11, h12⟩, h13, h14⟩

/-- R41, R107: a WAITING command discarded and its request withdrawn. -/
theorem Settled.discardWaiting {s : State} (h : Settled s) {r : CmdRec} (hs : s.seq = .waiting r) :
    Settled (discardMember false (setCmdReq false (s.withSeq .idle))) := by
  obtain ⟨-, hphase⟩ := (handSound_waiting hs).mp (h.hand (hasCommand_waiting hs))
  have hp : s.batch.phase ≠ .unwinding := by rcases hphase with ⟨hx, -⟩ | ⟨hx, -⟩ <;> rw [hx] <;> exact nofun
  have hexec : isExecuting s.seq = false := by rw [hs]; rfl
  have hempty : hasCommand (discardMember false (setCmdReq false (s.withSeq .idle))) = false := rfl
  obtain ⟨hundo, htimer, -, -⟩ := h.batch
  have hno : ∀ {P : Prop}, hasCommand (discardMember false (setCmdReq false (s.withSeq .idle))) = true → P :=
    fun hx => nomatch hx
  refine ⟨⟨h.store, h.undo, batchSound_plain rfl rfl hundo htimer, hno, fun _ => rfl,
    flightSound_congr h.flight (h.toCoreSound.not_restoring (.inl hp)) rfl (fun _ => rfl) hexec.symm,
    spaceSound_plain rfl, h.queue, ⟨h.ring.1, hno⟩, h.sides, h.postReq, fun hc => nomatch hc⟩, fun hw => ?_,
    fun hf => ⟨(h.decided hf).1, rfl⟩⟩
  rw [wantsCommand_of_empty hempty (.inl hp)] at hw
  cases hw

/-- R107, R41: the core behind a reset's sequencer, whose WAITING command is discarded. -/
theorem resetSequencer_settled {s : State} (h : CoreInv s) :
    Settled (discardMember (memberExecuting s) (resetSequencer (resetHostState s)))
      ∧ isWaiting (resetSequencer (resetHostState s)).seq = false
      ∧ (memberExecuting s = true → isExecuting (resetSequencer (resetHostState s)).seq = true) := by
  have hv : Settled ((resetHostState s).withOwed false) :=
    h.settled.emptied (resetHostState_entries s) (resetHostState_engine s) (resetHostState_batch s) (resetHostState_seq s)
      (resetHostState_chans s) (resetHostState_cmdQueue s) (resetHostState_ring s)
  have hseq := resetHostState_seq s
  have hmember : ((resetHostState s).withOwed false).batch.member = s.batch.member :=
    congrArg Batch.member (resetHostState_batch s)
  have hidle : ∀ q, inHand q = none → s.seq = q → isExecuting q = false → isWaiting q = false →
      Settled (discardMember (memberExecuting s) ((resetHostState s).withOwed false |>.withSeq .idle)) := by
    intro q hq hs hexec hwait
    have he : hasCommand ((resetHostState s).withOwed false) = false := by
      unfold hasCommand
      rw [show ((resetHostState s).withOwed false).seq = q from hseq.trans hs, hq]
      rfl
    have hm : memberExecuting s = ((resetHostState s).withOwed false).batch.member :=
      (memberExecuting_of_idle (hs ▸ hexec)).trans (hv.empty he).symm
    rw [hm]
    exact (hv.withSeq he (q := .idle) rfl).undeferred
  unfold resetSequencer
  rw [hseq]
  cases hs : s.seq with
  | idle => exact ⟨hidle .idle rfl hs rfl rfl, rfl, by rw [memberExecuting_of_idle (by rw [hs]; rfl)]; exact nofun⟩
  | stalled => exact ⟨hidle .stalled rfl hs rfl rfl, rfl, by rw [memberExecuting_of_idle (by rw [hs]; rfl)]; exact nofun⟩
  | waiting r =>
    rw [memberExecuting_of_idle (by rw [hs]; rfl)]
    exact ⟨hv.discardWaiting (hseq.trans hs), rfl, nofun⟩
  | executing r =>
    have hm : memberExecuting s = ((resetHostState s).withOwed false).batch.member :=
      (memberExecuting_of_executing hs).trans hmember.symm
    rw [hm]
    dsimp only
    rw [show ((resetHostState s).withOwed false).seq = .executing r from hseq.trans hs]
    exact ⟨hv.undeferred, rfl, fun _ => rfl⟩
  | unwinding a =>
    have hfalse : memberExecuting s = false := memberExecuting_of_idle (by rw [hs]; rfl)
    have hm : memberExecuting s = ((resetHostState s).withOwed false).batch.member :=
      hfalse.trans (hmember.trans ((handSound_unwinding hs).mp h.sound.hand).2).symm
    dsimp only
    rw [show ((resetHostState s).withOwed false).seq = .unwinding a from hseq.trans hs]
    refine ⟨?_, rfl, by rw [hfalse]; exact nofun⟩
    rw [hm]
    exact hv.undeferred

/-- R129: the batch of a command found EXECUTING unwinds once the command has completed. -/
theorem Settled.resetExecuting {s : State} (h : Settled s) {r : CmdRec} (hs : s.seq = .executing r)
    (hp : s.batch.phase = .opened) (hm : s.batch.member = true) {b : Batch} (undo : b.undo = s.batch.undo)
    (phase : b.phase = .unwinding) (cause : b.cause = .reset) (timer : b.timer = none) (deferred : b.deferred = false)
    (member : b.member = true) : Settled (s.withBatch b) := by
  obtain ⟨x, hx, hk⟩ := arith_of_executing h.flight hs
  have hs' : (s.withBatch b).seq = .executing r := hs
  have hr : restoring s = false := by
    unfold restoring
    rw [hx]
    obtain ⟨k, g⟩ := x
    cases k with
    | restore p => cases hk
    | _ => rfl
  have hcmd : s.engine.cmdReq = false := by
    cases hc : s.engine.cmdReq with
    | false => rfl
    | true =>
      have hw := h.cmdReq hc
      rw [wantsCommand_eq, hs, hp] at hw
      cases hw
  have hquiet : wantsCommand (s.withBatch b) = false := by
    rw [wantsCommand_eq, hs', show (s.withBatch b).batch.member = true from member]
    simp [isWaiting]
  have hspace : spaceSound (s.withBatch b) = true := by
    have hsp := h.space
    rw [spaceSound_executing hs hx, hm] at hsp
    rw [spaceSound_executing (s := s.withBatch b) hs hx]
    unfold undoShort at hsp ⊢
    rw [State.withBatch_batch, undo, member]
    exact hsp
  have hbatch : BatchSound (s.withBatch b) := by
    unfold BatchSound
    rw [State.withBatch_batch, phase, timer, deferred, cause]
    exact ⟨fun hx => hx.elim nofun nofun, nofun, nofun, fun _ => .inr ⟨rfl, rfl⟩⟩
  refine ⟨⟨h.store, undo ▸ h.undo, hbatch, fun _ => ?_, fun he => ?_, flightSound_congr h.flight hr rfl (fun _ => rfl) rfl,
    hspace, h.queue, h.ring, fun i t ht => ?_, h.postReq, fun hc => ?_⟩, fun hw => ?_, h.decided⟩
  · refine (handSound_executing hs').mpr ?_
    rw [State.withBatch_batch, phase, member]
    exact ⟨nofun, fun _ => nofun, fun _ => rfl⟩
  · rw [hasCommand_executing hs'] at he
    cases he
  · rw [committed_congr (s := s) (t := s.withBatch b) rfl undo]
    exact h.sides i t ht
  · rw [State.withBatch_engine, hcmd] at hc
    cases hc
  · rw [hquiet] at hw
    cases hw

/-- R128–R130: the batch unit's part of a reset. -/
theorem Settled.resetBatch {s : State} (h : Settled s) (hw : isWaiting s.seq = false) (hd : s.batch.deferred = false)
    (he : s.batch.member = true → isExecuting s.seq = true) : Settled (resetBatch s.batch.member s) := by
  obtain ⟨hundo, htimer, -, hmember⟩ := h.batch
  have hempty : s.batch.phase = .opened ∧ s.batch.member = false ∨ s.batch.phase = .void → hasCommand s = false := by
    intro hp
    cases hs : s.seq with
    | idle => simp [hasCommand, hs, inHand]
    | stalled => simp [hasCommand, hs, inHand]
    | waiting r => rw [hs] at hw; cases hw
    | executing r =>
      obtain ⟨hne, hiff⟩ := (handSound_executing hs).mp (h.hand (hasCommand_executing hs))
      rcases hp with ⟨hp, hm⟩ | hp
      · rw [hiff.mpr (by rw [hp]; exact nofun)] at hm
        cases hm
      · exact absurd hp hne
    | unwinding a =>
      cases ha : hasCommand s with
      | false => rfl
      | true =>
        have hx := ((handSound_unwinding hs).mp (h.hand ha)).1
        rcases hp with ⟨hp, -⟩ | hp <;> cases hp.symm.trans hx
  unfold Machine.resetBatch
  cases hp : s.batch.phase with
  | none => exact h
  | opened =>
    dsimp only
    cases hm : s.batch.member with
    | true =>
      obtain ⟨r, hs⟩ : ∃ r, s.seq = .executing r := by
        have := he hm
        cases hs : s.seq with
        | executing r => exact ⟨r, rfl⟩
        | _ => rw [hs] at this; cases this
      exact h.resetExecuting hs hp hm rfl rfl rfl rfl rfl rfl
    | false =>
      have hno := hempty (.inl ⟨hp, hm⟩)
      have hp' : s.batch.phase ≠ .unwinding := by rw [hp]; exact nofun
      have hr := h.toCoreSound.not_restoring (.inl hp')
      refine beginUnwind_settled (h.toCoreSound.withBatch hno hr (h.toCoreSound.cmdReq_of_empty hno (.inl hp')) rfl rfl
        (batchSound_plain rfl rfl (fun hx => ?_) nofun)) h.decided rfl rfl hr fun _ => hno
      rcases hx with hx | hx <;> cases hx
  | unwinding =>
    obtain ⟨⟨h1, h2, -, h4, h5, h6, h7, h8, h9, h10, h11, h12⟩, h13, h14⟩ := h
    refine ⟨⟨h1, h2, ⟨hundo, htimer, ?_, fun _ => .inr ⟨hp, rfl⟩⟩, h4, h5, h6, h7, h8, h9, h10, h11, h12⟩, h13, h14⟩
    exact fun hx => nomatch hd.symm.trans hx
  | void =>
    have hno := hempty (.inr hp)
    have hm : s.batch.member = false := h.empty hno
    have hp' : s.batch.phase ≠ .unwinding := by rw [hp]; exact nofun
    refine Settled.withBatch h.toCoreSound h.decided hno (h.toCoreSound.not_restoring (.inl hp'))
      (h.toCoreSound.cmdReq_of_empty hno (.inl hp')) rfl hm
      (batchSound_plain hm hd (fun _ => hundo (.inr hp)) fun ht => ?_) nofun
    cases hp.symm.trans (htimer ht)

/-- R107: a sequencer without a command is at rest behind a reset. -/
theorem settleReset_coreInv {s : State} (h : Settled s) (hq : s.cmdQueue = []) : CoreInv (settleReset s) := by
  unfold settleReset
  split
  · rename_i he
    exact h.coreInv fun hx => by rw [he] at hx; cases hx
  · rename_i he
    have he := Bool.eq_false_iff.mpr he
    split
    · rename_i hp
      exact (h.withSeq he (q := .unwinding none) rfl).coreInv fun he' =>
        ⟨(handSound_of_empty he').mpr ⟨h.empty he, fun _ => hp, fun _ => rfl⟩, rfl⟩
    · rename_i hp
      refine (h.withSeq he (q := .idle) rfl).coreInv fun he' =>
        ⟨(handSound_of_empty he').mpr ⟨h.empty he, nofun, fun hx => absurd hx hp⟩, ?_⟩
      exact List.isEmpty_iff.mpr hq

theorem resetSequencer_queue (s : State) : (resetSequencer (resetHostState s)).cmdQueue = [] := by
  unfold resetSequencer
  split <;> exact resetHostState_cmdQueue s

theorem resetBatch_queue (e : Bool) (s : State) : (resetBatch e s).cmdQueue = s.cmdQueue := by
  unfold resetBatch
  split
  · rfl
  · dsimp only
    split
    · rfl
    · rw [beginUnwind_cmdQueue]
      rfl
  · rfl
  · rfl

theorem resetSequencer_batch (s : State) : (resetSequencer (resetHostState s)).batch = s.batch := by
  unfold resetSequencer
  split <;> exact resetHostState_batch s

theorem interfaceReset_coreInv {s : State} (h : CoreInv s) : CoreInv (interfaceReset s) := by
  obtain ⟨hs, hwait, hexec⟩ := resetSequencer_settled h
  refine settleReset_coreInv ?_ ((resetBatch_queue _ _).trans (resetSequencer_queue s))
  rw [resetBatch_discardMember fun hp => ?_]
  · exact hs.resetBatch hwait rfl hexec
  · rw [resetSequencer_batch] at hp ⊢
    exact h.member_of_not_opened hp

/-! #### Every step (R2–R193) -/

theorem writeReg_coreInv {s : State} (h : CoreInv s) (a : Nat) (v : Byte) : CoreInv (writeReg a v s) :=
  writeReg_cases (P := CoreInv)
    (control := iteInduction (fun _ => interfaceReset_coreInv h) fun _ => h)
    (window := fun w => (withWindow_outside w s).coreInv h)
    (submit := submitWrite_coreInv h)
    (ring := popRing_coreInv h)
    (events := (popEvents_outside s).coreInv h)
    (interval := fun x => (withInterval_outside x s).coreInv h)
    (limit := fun _ => Outside.coreInv {} h)
    (linkctrl := (writeLinkctrl_outside v s).coreInv h)
    (timeout := (withLink_outside _ s).coreInv h)
    (none := h) a

theorem hostWrite_coreInv {s : State} (h : CoreInv s) (a : Nat) (v : Byte) : CoreInv (hostWrite (writeReg a v) s) := by
  unfold hostWrite
  split
  · exact writeReg_coreInv ((phaseToState_outside s).coreInv h) a v
  · exact h

theorem reset_coreInv : CoreInv State.reset := ⟨reset_sound, invariantHoldsAtReset.requests, invariantHoldsAtReset.rest⟩

/-- No row unsettles the core. -/
theorem exec_coreInv {c : Instr} {s t : State} (h : exec c s = .next t) (hs : CoreInv s) : CoreInv t :=
  exec_rows (P := fun _ t => CoreInv t)
    (powerOn := Outside.coreInv {} reset_coreInv)
    (reset := iteInduction (fun _ => Outside.coreInv {} (interfaceReset_coreInv hs)) fun _ => hs)
    (rise := Outside.coreInv {} hs)
    (sample := fun _ _ ht => execSample_coreInv hs ht)
    (unit := fun _ _ ht => execUnitArrival_coreInv hs ht)
    (tick := deliverTick_coreInv (Outside.coreInv {} hs) List.not_mem_nil)
    (grant := arrive_coreInv hs)
    (post := fun t ht => by
      rcases execPostCompletion_cases ht with ⟨_, _, _, _, hx, rfl⟩ | rfl
      · exact postDone_coreInv hs hx
      · exact hs)
    (arith := fun t ht => by
      rcases execArithmeticCompletion_cases ht with ⟨_, _, hx, hk, hseq, rfl⟩ | rfl
      · exact arithDone_coreInv hs hseq hx hk
      · exact hs)
    (restore := fun t ht => by
      rcases execRestoreCompletion_cases ht with ⟨p, g, hx, rfl⟩ | rfl
      · exact restoreDone_coreInv (u := ⟨g, p⟩) hs hx
      · exact hs)
    (takes := fun op o => takeStep_coreInv hs op o)
    (batchTimer := iteInduction (fun ht => batchExpiry_coreInv hs ht) fun _ => hs)
    (interval := iteInduction (fun _ => (intervalEvent_outside _).coreInv ((intervalReload_unitsKept s).coreInv hs))
      fun _ => hs)
    (frame := (frameEnd_outside s).coreInv hs)
    (timeout := (linkTimeout_outside s).coreInv hs)
    (write := fun _ a v _ => hostWrite_coreInv hs a.toNat v)
    (read := fun _ a _ => (readReg_outside a.toNat s).coreInv hs)
    (falling := (fallingEdge_outside s).coreInv hs)
    (rising := (risingEdge_outside s).coreInv hs) h

theorem exec_inv {c : Instr} {s t : State} (h : exec c s = .next t) (hs : Inv s) : Inv t := by
  obtain ⟨sound, requests, rest⟩ := exec_coreInv h ⟨hs.sound, hs.requests, hs.rest⟩
  obtain ⟨events, chans, link, timebase⟩ := exec_blocksSound h hs.events hs.chans hs.link hs.timebase
  exact ⟨sound, requests, rest, events, chans, timebase, link, exec_hostQuiet h hs.quiet⟩

theorem inv_withPending {s : State} (h : Inv s) (q : List Instr) : Inv (s.withPending q) := by
  obtain ⟨sound, requests, rest⟩ := Outside.coreInv (t := s.withPending q) {} ⟨h.sound, h.requests, h.rest⟩
  exact ⟨sound, requests, rest, h.events, h.chans, h.timebase, h.link, h.quiet⟩

/-- Settles O13: a step idles, or runs one row with the command removed from the front of the waiting ones. -/
theorem invariantIsKept : Obligations.InvariantIsKept := by
  intro s t hs h
  unfold step at h
  split at h
  · cases h
    exact hs
  · exact exec_inv h (inv_withPending hs _)

end Sys2Proof.Machine
end

section
/-! ### Held entries and committed values -/

namespace Sys2Proof.Machine

open Sys2Proof.Safety

set_option Elab.async false

/-! #### Posts (R55) -/

theorem postDone_entries (x : Operation) (s : State) :
    (postDone x s).entries
      = (evaluateAll (opWrites x s.entries).2 ((opWrites x s.entries).1.map fun w => w.index)).1 := by
  unfold postDone
  dsimp only
  rw [arbitrate_entries]
  exact (appendThreads_sameCore _ _).entries

theorem postDone_batch (x : Operation) (s : State) : (postDone x s).batch = s.batch := by
  unfold postDone
  dsimp only
  rw [arbitrate_eq]
  exact (appendThreads_sameCore _ _).batch

/-- R55: a post in flight is to a chain of which nothing is held, and writes nothing else. -/
theorem postDone_held {s : State} (h : CoreInv s) {ch : Fin 8} {w : Nat} {d : Direction} {g : Fin 32}
    (hx : s.engine.inFlight = some ⟨.post ch w d, g⟩) {i : Fin 32} (hi : s.entries[i].held = true) :
    (postDone ⟨.post ch w d, g⟩ s).entries[i] = s.entries[i] := by
  have hflight := h.sound.flight
  rw [flightSound_post hx] at hflight
  simp only [Bool.and_eq_true, Bool.not_eq_true'] at hflight
  obtain ⟨hheld, -⟩ := hflight
  have hw := opWrites_writesChain (x := ⟨.post ch w d, g⟩) h.sound.store rfl
  rw [postDone_entries]
  generalize opWrites ⟨.post ch w d, g⟩ s.entries = r at hw
  have hno : i ∉ r.1.map fun w => w.index := fun hmem => by
    rw [hw.unheld hheld hmem] at hi
    cases hi
  exact (evaluateAll_get_of_not_mem _ _ _ hno).trans (hw.untouched i hno)

/-- Settles O16: the entries that a post writes are of its target's chain, of which nothing is held. -/
theorem postsSpareHeldEntries : Obligations.PostsSpareHeldEntries := by
  intro s t hs h i hi
  rcases execPostCompletion_cases h with ⟨_, _, _, _, hx, rfl⟩ | rfl
  · exact postDone_held ⟨hs.sound, hs.requests, hs.rest⟩ hx hi
  · rfl

/-! #### A take leaves an empty undo stack empty -/

theorem arrive_batch (s : State) : (arrive s).batch = s.batch := by rw [arrive_eq]

theorem beginUnwind_undo (s : State) : (beginUnwind s).batch.undo = s.batch.undo := by
  rcases beginUnwind_cases s with ⟨-, h⟩ | ⟨-, h⟩ <;> rw [h]
  · rfl
  · exact congrArg Batch.undo (arrive_batch (setCmdReq true s))

theorem arithBody_undo (op : Opcode) (o : Operands) (s : State) : (arithBody op o s).batch.undo = s.batch.undo := by
  have hrequest : ∀ t, (requestEngine op o t).batch.undo = t.batch.undo := fun t => congrArg Batch.undo (arrive_batch _)
  unfold arithBody
  split
  · split
    · unfold refuseUndoFull
      rw [beginUnwind_undo, openVoid_undo]
      rfl
    · exact hrequest _
  · exact hrequest s

/-- R82–R91: the body of a take empties the undo stack or leaves it alone. -/
theorem takeBody_undo_nil (op : Opcode) (o : Operands) {s : State} (h : s.batch.undo = []) :
    (takeBody op o s).batch.undo = [] := by
  cases op with
  | mark | chanclear | reportPeriodic => exact h
  | add | sub | move | negate | clear | compare => exact (arithBody_undo _ o s).trans h
  | setattr => unfold takeBody setattrBody; dsimp only; split <;> exact h
  | setthresh =>
    unfold takeBody setthreshBody
    dsimp only
    split
    · exact h
    · split <;> exact h
  | chanconfig => unfold takeBody chanconfigBody; dsimp only; split <;> exact h
  | batchOpen => rfl
  | batchCommit =>
    have hb : (commitBatch s).batch = (closeBatch s).batch := arrive_batch (refreshPostReq (closeBatch s))
    exact congrArg Batch.undo (hb.trans (closeBatch_batch s))
  | batchAbort =>
    unfold takeBody batchAbortBody
    dsimp only
    split
    · exact h
    · exact (beginUnwind_undo _).trans h
  | report =>
    unfold takeBody reportBody
    dsimp only
    split
    · exact h
    · exact (congrArg Batch.undo (appendJob_sameCore _ s).1.batch).trans h

theorem take_undo_nil (op : Opcode) (o : Operands) {s : State} (h : s.batch.undo = []) :
    (take op o s).batch.undo = [] := by
  rw [take_eq]
  rcases checked_cases op o (takeBody op o) s with
    ⟨-, -, heq⟩ | ⟨-, -, heq⟩ | ⟨-, -, heq⟩ | ⟨st, -, -, -, heq⟩ | ⟨-, -, -, heq⟩ <;> rw [heq]
  · exact h
  · exact h
  · exact h
  · exact h
  · exact takeBody_undo_nil op o h

/-- R99: passing on takes records, none of which leaves an undo record behind. -/
theorem handOn_undo_nil (e : Bool) {s : State} (h : s.batch.undo = []) : (handOn e s).batch.undo = [] := by
  unfold handOn
  split
  · exact h
  · refine passOnFor_keeps (fun s => s.batch.undo = []) (fun _ h _ => h) (fun e s h _ _ => ?_) (fun _ h _ _ _ => h)
      (fun r q s h _ _ _ => ?_) _ e s h
    · obtain ⟨f, hf⟩ := enterIdle_eq e s
      rw [hf]
      exact h
    · obtain ⟨f, hf⟩ := popQueue_eq s
      rw [hf]
      unfold takeRecord
      split
      · exact take_undo_nil _ _ h
      · exact h

/-! #### The unwinding goes on, or ends -/

/-- R120: the store and the undo stack are the same, so every committed value is. -/
structure StoreKept (s t : State) : Prop where
  entries : t.entries = s.entries := by rfl
  undo : t.batch.undo = s.batch.undo := by rfl

theorem StoreKept.committed {s t : State} (h : StoreKept s t) (i : Fin 32) : committed t i = committed s i :=
  committed_congr h.entries h.undo i

theorem StoreKept.trans {s t u : State} (h : StoreKept s t) (h' : StoreKept t u) : StoreKept s u :=
  ⟨h'.entries.trans h.entries, h'.undo.trans h.undo⟩

theorem SameCore.storeKept {s t : State} (h : SameCore s t) : StoreKept s t := ⟨h.entries, by rw [h.batch]⟩

/-- R99: while the batch unwinds nothing is taken. -/
theorem handOn_unwinding (e : Bool) {s : State} (hp : s.batch.phase = .unwinding) :
    (handOn e s).entries = s.entries ∧ (handOn e s).batch = s.batch := by
  unfold handOn
  split
  · exact ⟨rfl, rfl⟩
  · unfold passOn passOnFor
    rw [if_pos hp]
    exact ⟨rfl, rfl⟩

theorem arrive_storeKept (s : State) : StoreKept s (arrive s) := by
  rw [arrive_eq]
  exact {}

theorem unheld_of_undo_nil {s : State} (h : UndoSound s.entries s.batch.undo) (hu : s.batch.undo = []) (i : Fin 32) :
    s.entries[i].held = false := by
  obtain ⟨-, -, hiff, -⟩ := h
  rw [hu] at hiff
  cases hx : s.entries[i].held with
  | false => rfl
  | true => exact absurd ((hiff i).mp hx) List.not_mem_nil

/-- R119, R120: the unwinder's next request, or the end of an unwinding behind which records are taken, changes no
committed value. -/
theorem resume_committed {s : State} (hu : UndoSound s.entries s.batch.undo)
    (hp : s.batch.undo ≠ [] → s.batch.phase = .unwinding) (ht : UndoSound (resume s).entries (resume s).batch.undo)
    (i : Fin 32) : committed (resume s) i = committed s i := by
  by_cases hnil : s.batch.undo = []
  · have hnil' : (resume s).batch.undo = [] := by
      rw [resume_eq]
      refine handOn_undo_nil true ?_
      split
      · rw [beginUnwind_undo]; exact hnil
      · exact hnil
    rw [committed_of_unheld (unheld_of_undo_nil ht hnil' i), committed_of_unheld (unheld_of_undo_nil hu hnil i)]
    exact (resume_undisturbed s).values i
  · have hphase := hp hnil
    obtain ⟨hnil', -⟩ | ⟨-, hbegin⟩ := beginUnwind_cases s
    · exact absurd hnil' hnil
    · have hb : (beginUnwind s).batch = s.batch := by rw [hbegin]; exact arrive_batch _
      obtain ⟨hentries, hbatch⟩ := handOn_unwinding true (s := beginUnwind s) (by rw [hb]; exact hphase)
      rw [resume_eq, if_pos hphase]
      refine StoreKept.committed ⟨hentries.trans ?_, by rw [hbatch, hb]⟩ i
      rw [hbegin]
      exact (arrive_storeKept (setCmdReq true s)).entries

end Sys2Proof.Machine
end

section
/-! ### Committed values through an unwinding -/

namespace Sys2Proof.Machine

open Sys2Proof.Safety

set_option Elab.async false

/-! #### A command of the batch completes (R98, R115) -/

/-- R98: the store, the flags, the ring and the sequencer at the completion of a command. -/
def finishedState (r : CmdRec) (x : Operation) (s : State) : State :=
  (finishCommand r (opFlags x s.entries (opWrites x s.entries).2 (opWrites x s.entries).1)
    (s.withEntries (opWrites x s.entries).2)).withSeq .stalled

/-- R115, R126: the state at the completion of a command of the batch, before the engine is freed. -/
def memberState (r : CmdRec) (x : Operation) (s : State) : State :=
  memberDone (opWrites x s.entries).1 (finishedState r x s)

theorem arithDone_member (r : CmdRec) (x : Operation) {s : State} (hm : s.batch.member = true) :
    arithDone r x s = resume (arbitrate (freeEngine (memberState r x s))) := by
  unfold arithDone
  dsimp only
  rw [if_pos hm]
  rfl

theorem finishedState_entries (r : CmdRec) (x : Operation) (s : State) :
    (finishedState r x s).entries = (opWrites x s.entries).2 := finishCommand_entries _ _ _

theorem finishedState_batch (r : CmdRec) (x : Operation) (s : State) : (finishedState r x s).batch = s.batch := by
  obtain ⟨-, -, h, -, -⟩ := finishCommand_frame r (opFlags x s.entries (opWrites x s.entries).2 (opWrites x s.entries).1)
    (s.withEntries (opWrites x s.entries).2)
  exact h

theorem memberState_entries (r : CmdRec) (x : Operation) (s : State) :
    (memberState r x s).entries = (pushWritten (opWrites x s.entries).1 (opWrites x s.entries).2 s.batch.undo).1 := by
  unfold memberState
  rw [(memberDone_sameCore _ _).1.entries, State.withBatch_entries, State.withEntries_entries, finishedState_entries,
    finishedState_batch]

theorem memberState_batch (r : CmdRec) (x : Operation) (s : State) :
    (memberState r x s).batch = memberBatch (opWrites x s.entries).1 (finishedState r x s) := by
  unfold memberState
  rw [(memberDone_sameCore _ _).1.batch, State.withBatch_batch]

theorem memberState_undo (r : CmdRec) (x : Operation) (s : State) :
    (memberState r x s).batch.undo = (pushWritten (opWrites x s.entries).1 (opWrites x s.entries).2 s.batch.undo).2 := by
  rw [memberState_batch, memberBatch_undo, finishedState_entries, finishedState_batch]

/-- R9, R115: the records pushed keep every committed value, and the stack sound. -/
theorem memberState_committed {s : State} (h : CoreInv s) {r : CmdRec} {x : Operation} (hs : s.seq = .executing r)
    (hx : s.engine.inFlight = some x) (hk : x.kind.isArith = true) (hm : s.batch.member = true) :
    (∀ i : Fin 32, committed (memberState r x s) i = committed s i)
      ∧ UndoSound (memberState r x s).entries (memberState r x s).batch.undo := by
  have hw := opWrites_writesChain (x := x) h.sound.store (isArith_not_restore hk)
  have hroom := h.undoRoom hs hx hm
  have hp := pushWritten_pushed h.sound.store hw s.batch.undo
  have hentries := memberState_entries r x s
  have hundo := memberState_undo r x s
  refine ⟨fun i => ?_, ?_⟩
  · rw [committed_eq, hentries, hundo]
    exact hp.committedIn_eq h.sound.store h.sound.undo hw hroom i
  · rw [hentries, hundo]
    exact hp.undoSound h.sound.store h.sound.undo hw hroom

/-- R37: what frees the engine and decides the waiting post leaves the store and the batch unit alone. -/
theorem arbitrate_free_storeKept (s : State) : StoreKept s (arbitrate (freeEngine s)) := by
  rw [arbitrate_eq]
  exact {}

/-- R120, R129: the command that a reset found EXECUTING completes into the unwinding. -/
theorem arithDone_committed {s : State} (h : CoreInv s) (hp : s.batch.phase = .unwinding) {r : CmdRec} {x : Operation}
    (hs : s.seq = .executing r) (hx : s.engine.inFlight = some x) (hk : x.kind.isArith = true) (i : Fin 32) :
    committed (arithDone r x s) i = committed s i := by
  have hm : s.batch.member = true := (h.member_of_executing hs).mpr (by rw [hp]; exact nofun)
  obtain ⟨hcommitted, hsound⟩ := memberState_committed h hs hx hk hm
  have hkept := arbitrate_free_storeKept (memberState r x s)
  have hdeferred : s.batch.deferred = false := by
    obtain ⟨-, -, hdef, -⟩ := h.sound.batch
    cases hd : s.batch.deferred with
    | false => rfl
    | true => cases hp.symm.trans (hdef hd).2
  have hphase : (arbitrate (freeEngine (memberState r x s))).batch.phase = .unwinding := by
    rw [arbitrate_eq]
    change (memberState r x s).batch.phase = _
    rw [memberState_batch]
    unfold memberBatch
    rw [finishedState_batch, hdeferred]
    exact hp
  have ht := (arithDone_coreInv h hs hx hk).sound.undo
  rw [arithDone_member r x hm] at ht ⊢
  rw [resume_committed (hkept.entries ▸ hkept.undo ▸ hsound) (fun _ => hphase) ht i, hkept.committed i]
  exact hcommitted i

/-! #### A restore completes (R118) -/

theorem restoredState_core (u : UndoRec) (us : List UndoRec) (s : State) :
    (restoredState u us s).entries = restoredStore s.entries u ∧ (restoredState u us s).batch.undo = us
      ∧ (us ≠ [] → (restoredState u us s).batch.phase = s.batch.phase) := by
  unfold restoredState
  cases us with
  | nil =>
    obtain ⟨hentries, -, -, hbatch, -⟩ := finishAbort_frame (endUnwind (undoneState u [] s))
    exact ⟨hentries, congrArg Batch.undo hbatch, fun h => absurd rfl h⟩
  | cons v vs => exact ⟨rfl, rfl, fun _ => rfl⟩

theorem restoreDone_committed {s : State} (h : CoreInv s) {u : UndoRec}
    (hx : s.engine.inFlight = some ⟨.restore u.prior, u.index⟩) (i : Fin 32) :
    committed (restoreDone ⟨.restore u.prior, u.index⟩ s) i = committed s i := by
  obtain ⟨a, us, hw, hu⟩ := h.unwinder hx
  obtain ⟨hentries, hundo, hphase⟩ := restoredState_core u us s
  have hus := h.sound.undo
  rw [hu] at hus
  have hkept : StoreKept (restoredState u us s) (arbitrate (freeEngine (refreshPostReq (restoredState u us s)))) := by
    have := arbitrate_free_storeKept (refreshPostReq (restoredState u us s))
    exact ⟨this.entries, this.undo⟩
  have hbatch : (arbitrate (freeEngine (refreshPostReq (restoredState u us s)))).batch = (restoredState u us s).batch := by
    rw [arbitrate_eq]
    rfl
  have ht := (restoreDone_coreInv h hx).sound.undo
  rw [restoreDone_eq hu] at ht ⊢
  have hsound : UndoSound (arbitrate (freeEngine (refreshPostReq (restoredState u us s)))).entries
      (arbitrate (freeEngine (refreshPostReq (restoredState u us s)))).batch.undo := by
    rw [hkept.entries, hkept.undo, hentries, hundo]
    exact restoredStore_undoSound hus
  rw [resume_committed hsound (fun hne => ?_) ht i,
    hkept.committed i, committed_eq, hentries, hundo, committed_eq, hu]
  · exact restoredStore_committedIn hus i
  · rw [hbatch] at hne ⊢
    rw [hundo] at hne
    exact (hphase hne).trans hw.phase

/-! #### Every other row while the batch unwinds -/

/-- The store and the batch unit are the same. -/
structure BatchKept (s t : State) : Prop where
  entries : t.entries = s.entries := by rfl
  batch : t.batch = s.batch := by rfl

theorem BatchKept.trans {s t u : State} (h : BatchKept s t) (h' : BatchKept t u) : BatchKept s u :=
  ⟨h'.entries.trans h.entries, h'.batch.trans h.batch⟩

theorem BatchKept.storeKept {s t : State} (h : BatchKept s t) : StoreKept s t := ⟨h.entries, by rw [h.batch]⟩

theorem SameCore.batchKept {s t : State} (h : SameCore s t) : BatchKept s t := ⟨h.entries, h.batch⟩

theorem arrive_batchKept (s : State) : BatchKept s (arrive s) := ⟨(arrive_storeKept s).entries, arrive_batch s⟩

theorem unitArrives_batchKept (ch : Fin 8) (s : State) : BatchKept s (unitArrives ch s) := by
  obtain ⟨t, e, h⟩ := unitArrives_sameCore ch s
  rw [h]
  exact e.batchKept.trans ⟨(arrive_batchKept (refreshPostReq t)).entries, (arrive_batchKept (refreshPostReq t)).batch⟩

theorem runTimed_batchKept {e : TimedEvent} (he : e ≠ .batchExpiry) (s : State) : BatchKept s (runTimed e s) := by
  cases e with
  | unit ch => exact unitArrives_batchKept ch s
  | frameEnd => exact (frameEnd_outside s).batchKept
  | intervalReload => exact (intervalReload_unitsKept s).batchKept
  | intervalEvent => exact (intervalEvent_outside s).batchKept
  | linkTimeout => exact (linkTimeout_outside s).batchKept
  | batchExpiry => exact absurd rfl he

theorem runThreads_batchKept {threads : List (List TimedEvent)} (h : .batchExpiry ∉ threads.flatten) (s : State) :
    BatchKept s (runThreads runTimed threads s) := by
  obtain ⟨_, -, hkept⟩ := interleave_actions runTimed (fun l t => .batchExpiry ∉ l ∧ BatchKept s t)
    (fun a rest t ⟨hno, hk⟩ => ⟨fun hmem => hno (List.mem_cons_of_mem a hmem),
      hk.trans (runTimed_batchKept (fun hx => hno (hx ▸ List.mem_cons_self)) t)⟩)
    (fun l l' t hp ⟨hno, hk⟩ => ⟨fun hmem => hno (hp.mem_iff.mpr hmem), hk⟩)
    (fun l t n ⟨hno, hk⟩ => ⟨hno, hk.entries, hk.batch⟩) _ threads s ⟨h, {}⟩
  exact hkept

theorem deliverTick_batchKept {others : List (List TimedEvent)} {s : State} (ht : s.batch.timer = none)
    (hno : .batchExpiry ∉ others.flatten) : BatchKept s (deliverTick others s) := by
  have hlower : batchLower s.batch = s.batch := by
    unfold batchLower
    rw [ht]
  have hcounts : BatchKept s (lowerCounts s) := ⟨(timeoutLower_outside _).entries, (lowerCounts_batch s).trans hlower⟩
  refine hcounts.trans (runThreads_batchKept (fun hx => ?_) _)
  rw [List.flatten_append, List.mem_append] at hx
  have hsome := batchDue_timer ((dueExpiries_count s).2 (hx.resolve_left hno))
  rw [ht] at hsome
  cases hsome

theorem tick_batchKept {s : State} (ht : s.batch.timer = none) :
    BatchKept s (deliverTick [] (s.withTimebase (endTick s.timebase))) := by
  have h := deliverTick_batchKept (others := []) (s := s.withTimebase (endTick s.timebase)) ht List.not_mem_nil
  exact ⟨h.entries, h.batch⟩

theorem execSample_batchKept {levels : Byte} {s t : State} (ht : s.batch.timer = none)
    (h : execSample levels s = .next t) : BatchKept s t := by
  have hs := (sampledState_unitsKept levels s).batchKept
  have hno := sampleThreads_no_expiry levels s
  rw [execSample_eq] at h
  cases h
  split
  · exact hs.trans (deliverTick_batchKept (by rw [hs.batch]; exact ht) hno)
  · exact hs.trans (runThreads_batchKept hno _)

theorem execUnitArrival_batchKept {ch : Fin 8} {s t : State} (h : execUnitArrival ch s = .next t) : BatchKept s t := by
  cases h
  split
  · exact BatchKept.trans {} (unitArrives_batchKept ch _)
  · exact {}

theorem handOn_batchKept (e : Bool) {s : State} (hp : s.batch.phase = .unwinding) : BatchKept s (handOn e s) :=
  ⟨(handOn_unwinding e hp).1, (handOn_unwinding e hp).2⟩

theorem submitWrite_batchKept {s : State} (hp : s.batch.phase = .unwinding) : BatchKept s (submitWrite s) := by
  unfold submitWrite
  dsimp only
  split
  · rw [recheck_eq]
    exact BatchKept.trans {} (handOn_batchKept false hp)
  · exact {}

theorem popRing_batchKept {s : State} (hp : s.batch.phase = .unwinding) : BatchKept s (popRing s) := by
  unfold popRing
  split
  · exact {}
  · rw [recheck_eq]
    exact BatchKept.trans {} (handOn_batchKept false hp)

/-- R130: a reset changes the cause of an unwinding and nothing else of the batch unit. -/
theorem interfaceReset_storeKept {s : State} (hp : s.batch.phase = .unwinding) : StoreKept s (interfaceReset s) := by
  have hb := resetSequencer_batch s
  have he : (resetSequencer (resetHostState s)).entries = s.entries := by
    unfold resetSequencer
    split <;> exact resetHostState_entries s
  have hreset : StoreKept s (resetBatch (memberExecuting s) (resetSequencer (resetHostState s))) := by
    unfold resetBatch
    rw [hb, hp]
    exact ⟨he, rfl⟩
  unfold interfaceReset settleReset
  split
  · exact hreset
  · exact ⟨hreset.entries, hreset.undo⟩

theorem writeReg_storeKept {s : State} (hp : s.batch.phase = .unwinding) (a : Nat) (v : Byte) :
    StoreKept s (writeReg a v s) :=
  writeReg_cases (P := StoreKept s)
    (control := iteInduction (fun _ => interfaceReset_storeKept hp) fun _ => {})
    (window := fun _ => {})
    (submit := (submitWrite_batchKept hp).storeKept)
    (ring := (popRing_batchKept hp).storeKept)
    (events := (popEvents_outside s).storeKept)
    (interval := fun _ => {})
    (limit := fun _ => {})
    (linkctrl := (writeLinkctrl_outside v s).storeKept)
    (timeout := {})
    (none := {}) a

theorem hostWrite_storeKept {s : State} (hp : s.batch.phase = .unwinding) (a : Nat) (v : Byte) :
    StoreKept s (hostWrite (writeReg a v) s) := by
  unfold hostWrite
  split
  · have h := writeReg_storeKept (s := phaseToState s) hp a v
    exact ⟨h.entries, h.undo⟩
  · exact {}

/-- R120: in an unwinding no row but an engine completion reaches the store or the undo stack. -/
theorem exec_committed {c : Instr} {s t : State} (h : exec c s = .next t) (hs : CoreInv s)
    (hp : s.batch.phase = .unwinding) (hc : c ≠ .powerOnReset) {i : Fin 32} (hi : s.entries[i].held = true) :
    committed t i = committed s i := by
  have htimer : s.batch.timer = none := by
    cases ht : s.batch.timer with
    | none => rfl
    | some n => cases hp.symm.trans (hs.sound.batch.2.1 (by rw [ht]; rfl))
  refine exec_rows (P := fun c t => c ≠ .powerOnReset → committed t i = committed s i)
    (powerOn := fun hc => absurd rfl hc)
    (reset := fun _ => ?_)
    (rise := fun _ => rfl)
    (sample := fun _ _ ht _ => (execSample_batchKept htimer ht).storeKept.committed i)
    (unit := fun _ _ ht _ => (execUnitArrival_batchKept ht).storeKept.committed i)
    (tick := fun _ => (tick_batchKept htimer).storeKept.committed i)
    (grant := fun _ => (arrive_storeKept s).committed i)
    (post := fun t ht _ => ?_)
    (arith := fun t ht _ => ?_)
    (restore := fun t ht _ => ?_)
    (takes := fun op o _ => ?_)
    (batchTimer := fun _ => ?_)
    (interval := fun _ => ?_)
    (frame := fun _ => (frameEnd_outside s).storeKept.committed i)
    (timeout := fun _ => (linkTimeout_outside s).storeKept.committed i)
    (write := fun _ a v _ _ => (hostWrite_storeKept hp a.toNat v).committed i)
    (read := fun _ a _ _ => (readReg_outside a.toNat s).storeKept.committed i)
    (falling := fun _ => (fallingEdge_outside s).storeKept.committed i)
    (rising := fun _ => (risingEdge_outside s).storeKept.committed i) h hc
  · split
    · have hk := interfaceReset_storeKept hp
      exact StoreKept.committed ⟨hk.entries, hk.undo⟩ i
    · rfl
  · rcases execPostCompletion_cases ht with ⟨ch, w, d, g, hx, rfl⟩ | rfl
    · unfold committed
      rw [postDone_batch, postDone_held hs hx hi]
    · rfl
  · rcases execArithmeticCompletion_cases ht with ⟨x, r, hx, hk, hseq, rfl⟩ | rfl
    · exact arithDone_committed hs hp hseq hx hk i
    · rfl
  · rcases execRestoreCompletion_cases ht with ⟨p, g, hx, rfl⟩ | rfl
    · exact restoreDone_committed (u := ⟨g, p⟩) hs hx i
    · rfl
  · rw [takeStep_eq, show canTake (recordOf op o) s = false by simp [canTake, hp]]
    rfl
  · rw [htimer]
    rfl
  · split
    · exact ((intervalReload_unitsKept s).storeKept.trans (intervalEvent_outside _).storeKept).committed i
    · rfl

/-- Settles O15: a restore's record holds what its entry is given back, and no other row reaches the store. -/
theorem unwindingKeepsCommittedValues : Obligations.UnwindingKeepsCommittedValues := by
  intro c s t hs hp hc h i hi
  exact exec_committed h ⟨hs.sound, hs.requests, hs.rest⟩ hp hc hi

end Sys2Proof.Machine
end

section
/-! ### The interface reset (R191) -/

namespace Sys2Proof.Machine

open Sys2Proof.Safety

set_option Elab.async false

/-- R191: what an interface reset touches besides the host-facing state. -/
theorem interfaceReset_eq (s : State) :
    interfaceReset s =
      { resetHostState s with
        owed := false, batch := (interfaceReset s).batch, engine := (interfaceReset s).engine
        chans := (interfaceReset s).chans, schedPtr := (interfaceReset s).schedPtr, seq := (interfaceReset s).seq } := by
  have hseq : ∀ u : State, resetSequencer u
      = { u with owed := false, engine := (resetSequencer u).engine, seq := (resetSequencer u).seq } := fun u => by
    unfold resetSequencer
    split <;> rfl
  have hbatch : ∀ (e : Bool) (u : State), resetBatch e u
      = { u with
          batch := (resetBatch e u).batch, engine := (resetBatch e u).engine, chans := (resetBatch e u).chans
          schedPtr := (resetBatch e u).schedPtr, seq := (resetBatch e u).seq } := fun e u => by
    unfold resetBatch
    split
    · rfl
    · dsimp only
      split
      · rfl
      · rw [beginUnwind_eq]
        rfl
    · rfl
    · rfl
  have hsettle : ∀ u : State, settleReset u = { u with seq := (settleReset u).seq } := fun u => by
    unfold settleReset
    split <;> rfl
  unfold interfaceReset
  rw [hsettle, hbatch, hseq]

/-- R191: what an interface reset keeps of the engine's requests, the scheduler and the undo stack. -/
structure EngineKept (s t : State) : Prop where
  chans : t.chans = s.chans := by rfl
  schedPtr : t.schedPtr = s.schedPtr := by rfl
  postReq : t.engine.postReq = s.engine.postReq := by rfl
  undo : t.batch.undo = s.batch.undo := by rfl
  flight : ∀ x, s.engine.inFlight = some x →
    t.engine.inFlight = some x ∧ t.engine.lastGranted = s.engine.lastGranted := by exact fun _ hx => ⟨hx, rfl⟩

theorem EngineKept.trans {s t u : State} (h : EngineKept s t) (h' : EngineKept t u) : EngineKept s u :=
  ⟨h'.chans.trans h.chans, h'.schedPtr.trans h.schedPtr, h'.postReq.trans h.postReq, h'.undo.trans h.undo, fun x hx => by
    obtain ⟨hin, hlast⟩ := h.flight x hx
    obtain ⟨hin', hlast'⟩ := h'.flight x hin
    exact ⟨hin', hlast'.trans hlast⟩⟩

/-- R118: the unwinder's request starts a restore at a FREE engine, and waits at a busy one. -/
theorem beginUnwind_engineKept {s : State} (hp : s.batch.phase = .unwinding)
    (hfree : engineFree s = true → s.engine.postReq = false) : EngineKept s (beginUnwind s) := by
  rcases beginUnwind_cases s with ⟨-, h⟩ | ⟨hu, h⟩ <;> rw [h]
  · exact {}
  · cases hf : engineFree s with
    | false =>
      rw [arrive_busy (setCmdReq true s) hf]
      exact {}
    | true =>
      obtain ⟨u, us, hus⟩ := List.exists_cons_of_ne_nil hu
      have hgrant : arrive (setCmdReq true s) = startOp ⟨.restore u.prior, u.index⟩ (setCmdReq false s) := by
        rw [arrive_free (setCmdReq true s) hf]
        unfold arbitrate
        rw [show (setCmdReq true s).engine.postReq = false from hfree hf]
        exact grantCommand_restore (s := setCmdReq true s) hp hus
      rw [hgrant]
      refine ⟨rfl, rfl, rfl, rfl, fun x hx => ?_⟩
      rw [engineFree_iff.mp hf] at hx
      cases hx

theorem resetSequencer_engineKept (s : State) : EngineKept s (resetSequencer (resetHostState s)) := by
  have h : EngineKept s (resetHostState s) :=
    ⟨resetHostState_chans s, resetHostState_schedPtr s, by rw [resetHostState_engine], by rw [resetHostState_batch],
      fun x hx => by rw [resetHostState_engine]; exact ⟨hx, rfl⟩⟩
  refine h.trans ?_
  unfold resetSequencer
  split <;> exact {}

theorem interfaceReset_engineKept {s : State} (h : RequestSound s) : EngineKept s (interfaceReset s) := by
  have hseq := resetSequencer_engineKept s
  have hin : (resetSequencer (resetHostState s)).engine.inFlight = s.engine.inFlight := by
    have hhost : (resetHostState s).engine.inFlight = s.engine.inFlight := congrArg Engine.inFlight (resetHostState_engine s)
    unfold resetSequencer
    split <;> exact hhost
  have hbatch : EngineKept s (resetBatch (memberExecuting s) (resetSequencer (resetHostState s))) := by
    refine hseq.trans ?_
    unfold resetBatch
    split
    · exact {}
    · dsimp only
      split
      · exact {}
      · refine EngineKept.trans {} (beginUnwind_engineKept rfl fun hf => ?_)
        refine hseq.postReq.trans (h.2.2 ?_).1
        exact engineFree_iff.mpr (hin.symm.trans (engineFree_iff.mp hf))
    · exact {}
    · exact {}
  unfold interfaceReset settleReset
  split
  · exact hbatch
  · exact hbatch.trans {}

/-- R191: the state of an interface reset, by the pin or by INIT, with RSTn aside. -/
structure InterfaceCleared (s t : State) : Prop extends EngineKept s t where
  cmdQueue : t.cmdQueue = []
  ring : t.ring = []
  owed : t.owed = false
  flags : t.flags = FlagWord.cleared
  events : t.events = EventQueue.empty
  interval : t.interval = IntervalTimer.cleared
  batchLimit : t.batchLimit = ⟨0, 0⟩
  link : t.link = Link.cleared
  window : t.window = Window.cleared
  entries : t.entries = s.entries
  timebase : t.timebase = s.timebase
  busOut : t.busOut = s.busOut
  freeCount : t.freeCount = s.freeCount
  pending : t.pending = s.pending
  rstn : t.rstn = s.rstn

theorem interfaceReset_cleared {s : State} (h : RequestSound s) : InterfaceCleared s (interfaceReset s) := by
  have heq := interfaceReset_eq s
  exact ⟨interfaceReset_engineKept h,
    (congrArg State.cmdQueue heq).trans (resetHostState_cmdQueue s),
    (congrArg State.ring heq).trans (resetHostState_ring s),
    congrArg State.owed heq,
    (congrArg State.flags heq).trans (resetHostState_flags s),
    (congrArg State.events heq).trans (resetHostState_events s),
    (congrArg State.interval heq).trans (resetHostState_interval s),
    (congrArg State.batchLimit heq).trans (resetHostState_batchLimit s),
    (congrArg State.link heq).trans (resetHostState_link s),
    (congrArg State.window heq).trans (resetHostState_window s),
    (congrArg State.entries heq).trans (resetHostState_entries s),
    (congrArg State.timebase heq).trans (resetHostState_timebase s),
    (congrArg State.busOut heq).trans (resetHostState_busOut s),
    (congrArg State.freeCount heq).trans (resetHostState_freeCount s),
    (congrArg State.pending heq).trans (resetHostState_pending s),
    (congrArg State.rstn heq).trans (resetHostState_rstn s)⟩

/-- R191: a command that resets the interface is the pin, or a write of CONTROL with INIT set. -/
theorem resetsInterface_cases {c : Instr} {s : State} (h : resetsInterface c s = true) :
    s.rstn = true ∧ (c = .interfaceReset ∧ exec c s = .next ((interfaceReset s).withRstn false)
      ∨ c ≠ .interfaceReset ∧ exec c s = .next (interfaceReset (phaseToState s))) := by
  unfold resetsInterface at h
  rw [Bool.and_eq_true] at h
  obtain ⟨hr, hc⟩ := h
  refine ⟨hr, ?_⟩
  by_cases hpin : c = .interfaceReset
  · subst hpin
    refine .inl ⟨rfl, ?_⟩
    change execInterfaceReset s = _
    unfold execInterfaceReset
    rw [if_pos hr]
  · refine .inr ⟨hpin, ?_⟩
    rw [Bool.or_eq_true, beq_iff_eq] at hc
    have hw := hc.resolve_left hpin
    split at hw
    · rename_i a v hwrite
      rw [Bool.and_eq_true, beq_iff_eq] at hw
      obtain ⟨rfl, hv⟩ := hw
      rw [exec_windowWrite hwrite]
      unfold hostWrite
      rw [if_pos hr]
      change Host.Outcome.next (writeControl v (phaseToState s)) = _
      unfold writeControl
      rw [if_pos hv]
    · cases hw

/-- Settles O18: both ways of a reset are the same one, but for RSTn. -/
theorem interfaceResetClearsHostState : Obligations.InterfaceResetClearsHostState := by
  intro c s hs hc
  obtain ⟨hr, ⟨rfl, h⟩ | ⟨hne, h⟩⟩ := resetsInterface_cases hc
  · obtain ⟨⟨h1, h2, h3, h4, h5⟩, h6, h7, h8, h9, h10, h11, h12, h13, h14, h15, h16, h17, h18, h19, -⟩ :=
      interfaceReset_cleared hs
    exact ⟨_, h, h6, h7, h8, h9, h10, h11, h12, h13, h14, rfl, h15, h1, h2, h16, h3, h4, h17, h18, h19, h5⟩
  · obtain ⟨⟨h1, h2, h3, h4, h5⟩, h6, h7, h8, h9, h10, h11, h12, h13, h14, h15, h16, h17, h18, h19, h20⟩ :=
      interfaceReset_cleared (s := phaseToState s) hs
    refine ⟨_, h, h6, h7, h8, h9, h10, h11, h12, h13, h14, ?_, h15, h1, h2, h16, h3, h4, h17, h18, h19, h5⟩
    rw [h20, show (phaseToState s).rstn = true from hr]
    exact (bne_iff_ne.mpr hne).symm

end Sys2Proof.Machine
end

section
/-! ### The configuration commands of the store (R83, R84) -/

namespace Sys2Proof.Machine

open Sys2Proof.Safety

set_option Elab.async false

/-! #### The take of the last record -/

theorem beginTake_last {s : State} (h : s.cmdQueue.length ≤ 1) : beginTake s = (s.withCmdQueue []).withOwed true := by
  unfold beginTake
  split
  · rename_i hq
    rw [← hq]
    rfl
  · rename_i r q hq
    rw [hq] at h
    have hq' : q = [] := List.length_eq_zero_iff.mp (Nat.le_zero.mp (Nat.le_of_succ_le_succ h))
    unfold popQueue
    rw [hq, hq']
    rfl

theorem canTake_spec {r : CmdRec} {s : State} (h : canTake r s = true) :
    hasCommand s = false ∧ s.batch.phase ≠ .unwinding := by
  simp only [canTake, Bool.and_eq_true, Bool.not_eq_true', bne_iff_ne, ne_eq] at h
  obtain ⟨⟨⟨⟨⟨-, he⟩, -⟩, hp⟩, -⟩, -⟩ := h
  exact ⟨he, hp⟩

/-- R99, R105: with nothing queued the sequencer becomes IDLE. -/
theorem handOn_idle {s : State} (hq : s.cmdQueue = []) (he : hasCommand s = false) (hp : s.batch.phase ≠ .unwinding) :
    handOn true s = setQuiet (s.withSeq .idle) := by
  rw [handOn_empty true he]
  unfold passOn passOnFor
  rw [if_neg hp]
  split
  · rfl
  · rename_i hcons
    cases hq.symm.trans hcons

/-- R97, R105: behind the last record of a command the sequencer is IDLE. -/
theorem handOn_complete {s : State} (hq : s.cmdQueue = []) (he : hasCommand s = false) (hp : s.batch.phase ≠ .unwinding)
    (op : Opcode) (o : Operands) (st : Status) : handOn true (complete op o st s) = completed op o st s := by
  rw [handOn_idle (s := complete op o st s) hq he hp]
  unfold completed
  rw [← hq]
  rfl

/-- R71–R73: a command whose condition holds and whose class is allowed is run. -/
theorem checked_run {op : Opcode} {o : Operands} {body : State → State} {s : State} (hv : s.batch.phase ≠ .void)
    (hcond : condHolds o.cond s.flags = true) (hclass : classRefusal op s.batch.phase = none) :
    checked op o body s = body s := by
  unfold checked
  rw [if_neg hv, if_pos hcond, hclass]

/-- R96–R99: a command run as the last one that leaves the hand at once. -/
theorem exec_lastRun {op : Opcode} {o : Operands} {s u : State} {st : Status} (h : LastRun op o s)
    (hbody : takeBody op o ((s.withCmdQueue []).withOwed true) = complete op o st u) (hq : u.cmdQueue = [])
    (hseq : u.seq = s.seq) (hbatch : u.batch = s.batch) :
    exec (takeRow op o) s = .next (completed op o st u) := by
  obtain ⟨⟨hcan, hlast⟩, hphase, hcond, hclass⟩ := h
  obtain ⟨he, hp⟩ := canTake_spec hcan
  have hv : s.batch.phase ≠ .void := by rcases hphase with hx | hx <;> rw [hx] <;> exact nofun
  rw [exec_takeRow, takeStep_eq, if_pos hcan, beginTake_last hlast, take_eq,
    checked_run (s := (s.withCmdQueue []).withOwed true) hv hcond hclass, hbody]
  exact congrArg _ (handOn_complete hq ((hasCommand_of_seq hseq).trans he) (by rw [hbatch]; exact hp) op o st)

/-- R83: the record of the entry replaced. -/
theorem exec_setattr_done {o : Operands} {s : State} (h : LastRun .setattr o s)
    (ha : attrInvalid o.target s.entries[o.target] o.attr = false) :
    exec (.setattr o) s = .next (completed .setattr o .done { s with
      entries := setEntry s.entries o.target { s.entries[o.target] with attr := o.attr } }) := by
  refine (exec_lastRun h (u := ((s.withCmdQueue []).withOwed true).withEntries
    (setEntry s.entries o.target { s.entries[o.target] with attr := o.attr })) ?_ rfl rfl rfl).trans rfl
  unfold takeBody setattrBody
  exact if_neg (by rw [show ((s.withCmdQueue []).withOwed true).entries = s.entries from rfl, ha]; exact Bool.noConfusion)

theorem exec_setattr_refused {o : Operands} {s : State} (h : LastRun .setattr o s)
    (ha : attrInvalid o.target s.entries[o.target] o.attr = true) :
    exec (.setattr o) s = .next (completed .setattr o .attrInvalid s) := by
  refine (exec_lastRun h (u := (s.withCmdQueue []).withOwed true) ?_ rfl rfl rfl).trans rfl
  unfold takeBody setattrBody
  exact if_pos ha

/-- R84: the threshold removed. -/
theorem exec_setthresh_removed {o : Operands} {s : State} (h : LastRun .setthresh o s) (ht : o.threshold = none) :
    exec (.setthresh o) s = .next (completed .setthresh o .done { s with
      entries := setEntry s.entries o.target { s.entries[o.target] with threshold := none, side := .below } }) := by
  refine (exec_lastRun h (u := ((s.withCmdQueue []).withOwed true).withEntries
    (setEntry s.entries o.target { s.entries[o.target] with threshold := none, side := .below })) ?_ rfl rfl rfl).trans rfl
  unfold takeBody setthreshBody
  dsimp only
  rw [ht]
  rfl

/-- R84, R7: the threshold installed, with the side of the committed value. -/
theorem exec_setthresh_installed {o : Operands} {s : State} (h : LastRun .setthresh o s) {t : Threshold}
    (ht : o.threshold = some t) (hfit : t.value.mag < 10 ^ s.entries[o.target].attr.width) :
    exec (.setthresh o) s = .next (completed .setthresh o .done { s with
      entries := setEntry s.entries o.target
        { s.entries[o.target] with threshold := some t, side := sideOf t (committed s o.target) } }) := by
  refine (exec_lastRun h (u := ((s.withCmdQueue []).withOwed true).withEntries (setEntry s.entries o.target
    { s.entries[o.target] with threshold := some t, side := sideOf t (committed s o.target) })) ?_ rfl rfl rfl).trans rfl
  unfold takeBody setthreshBody
  dsimp only
  rw [ht]
  exact if_neg (Nat.not_le.mpr hfit)

theorem exec_setthresh_refused {o : Operands} {s : State} (h : LastRun .setthresh o s) {t : Threshold}
    (ht : o.threshold = some t) (hfit : 10 ^ s.entries[o.target].attr.width ≤ t.value.mag) :
    exec (.setthresh o) s = .next (completed .setthresh o .attrInvalid s) := by
  refine (exec_lastRun h (u := (s.withCmdQueue []).withOwed true) ?_ rfl rfl rfl).trans rfl
  unfold takeBody setthreshBody
  dsimp only
  rw [ht]
  exact if_pos hfit

theorem sideOf_eq (t : Threshold) (v : Dec) :
    sideOf t v = if t.value.toInt ≤ v.toInt then .atOrAbove else .below := by
  unfold sideOf Dec.lt
  by_cases h : t.value.toInt ≤ v.toInt
  · rw [if_pos h, if_neg (by simpa using h)]
  · rw [if_neg h, if_pos (by simpa using h)]

/-- Settles O43: by the branches of the two commands' bodies, each taken as the last record. -/
theorem entrySettings : Obligations.EntrySettings := by
  refine ⟨fun o s h a ha => ?_, fun o s h => ⟨fun hb => ?_, fun f hf => ?_⟩⟩
  · obtain rfl : a = o.attr := ha
    refine ⟨fun hok => exec_setattr_done h (attrInvalid_eq_false.mpr hok), fun hbad => ?_⟩
    exact exec_setattr_refused h (Bool.eq_true_of_not_eq_false fun hx => hbad (attrInvalid_eq_false.mp hx))
  · exact exec_setthresh_removed h (by unfold Operands.threshold; rw [hb]; rfl)
  · have ht : o.threshold = some ⟨o.immediate, f⟩ := by
      unfold Operands.threshold
      rcases hf with ⟨hb, rfl⟩ | ⟨hb, rfl⟩ | ⟨hb, rfl⟩ <;> rw [hb] <;> rfl
    refine ⟨fun hfit => ?_, fun hfit => exec_setthresh_refused h ht hfit⟩
    have hdone := exec_setthresh_installed h ht hfit
    rw [sideOf_eq] at hdone
    exact hdone

end Sys2Proof.Machine
end

section
/-! ### A command of a reset batch that completes on an empty stack, with a record queued behind it -/

namespace Sys2Proof.Machine

open Sys2Proof.Safety

set_option Elab.async false

/-- A SETATTR of entry 0: width 5, policy WRAP, no link. -/
def queuedSetattr : CmdRec := recordOf .setattr ⟨0, 0, 0, 0x05, 0, 0xFF, 0, 0, 0, 0, 0⟩

/-- A COMPARE of entry 0 with the immediate +0. -/
def resetCompare : CmdRec := recordOf .compare ⟨0, 0, 0, 0x80, 0, 0, 0, 0, 0, 0, 0⟩

/-- R108, R129: an INIT has found a COMPARE of a batch EXECUTING; nothing had been written, so the undo stack is empty. The
host has since submitted a SETATTR. -/
def compareBehindReset : State :=
  { State.reset with
    engine := ⟨some ⟨.compare Dec.zero, 0⟩, .command, false, false⟩
    seq := .executing resetCompare
    batch := ⟨.unwinding, .reset, [], none, true, false⟩
    cmdQueue := [queuedSetattr] }

theorem compareBehindReset_inv : Inv compareBehindReset := by
  have hr := invariantHoldsAtReset
  have hany : anyEligible compareBehindReset = anyEligible State.reset := anyEligible_of_eq
  refine ⟨⟨hr.sound.store, hr.sound.undo, by decide, rfl, rfl, rfl, by decide, by decide, fun i t ht => ?_⟩,
    ⟨hr.requests.1.trans hany.symm, rfl, nofun⟩, rfl, hr.events, hr.chans, hr.timebase, hr.link, nofun⟩
  rw [show compareBehindReset.entries[i] = Entry.powerOn from reset_entry i] at ht
  cases ht

/-- R99, R119: the unwinding ends at once with cause RESET, and the sequencer takes the SETATTR in the same event. -/
theorem compareBehindReset_setattr :
    (arithDone resetCompare ⟨.compare Dec.zero, 0⟩ compareBehindReset).entries[(0 : Fin 32)].attr.width = 5 := by
  decide

/-- Refutes O36: its second part says what each entry is whatever is queued, but on an empty stack the sequencer passes on
and a queued SETATTR changes its entry's width. -/
theorem not_arithmeticCompletionInBatch : ¬ Obligations.ArithmeticCompletionInBatch := by
  intro h
  obtain ⟨t, ht, hentries, -⟩ :=
    h.2 compareBehindReset resetCompare ⟨.compare Dec.zero, 0⟩ compareBehindReset_inv rfl rfl rfl rfl rfl
  cases ht
  have hwidth := congrArg (fun e : Entry => e.attr.width) (hentries 0)
  exact absurd (compareBehindReset_setattr.symm.trans hwidth) (by decide)

end Sys2Proof.Machine
end

section
/-! ### The arbiter's decisions and the arrivals of units -/

namespace Sys2Proof.Machine

open Sys2Proof.Safety

/-! #### Which side the arbiter grants (R24, R25) -/

/-- R24: the command side alone, or beside a post side that was granted last. -/
theorem arbitrate_command {s : State} (hc : s.engine.cmdReq = true)
    (hp : s.engine.postReq = false ∨ s.engine.lastGranted = .post) : arbitrate s = grantCommand s := by
  unfold arbitrate
  rw [hc]
  rcases hp with hp | hp
  · rw [hp]
  · rw [hp]
    cases s.engine.postReq <;> rfl

/-- R24: the post side alone, or beside a command side that was granted last. -/
theorem arbitrate_post {s : State} (hp : s.engine.postReq = true)
    (hc : s.engine.cmdReq = false ∨ s.engine.lastGranted = .command) : arbitrate s = grantPost s := by
  unfold arbitrate
  rw [hp]
  rcases hc with hc | hc
  · rw [hc]
  · rw [hc]
    cases s.engine.cmdReq <;> rfl

/-- R57: the post side granted to the scheduler's choice. -/
theorem grantPost_chosen {s : State} {ch : Fin 8} (h : chooseChan s = some ch) : grantPost s = startPost ch s := by
  unfold grantPost
  rw [h]

/-- R25: with no channel eligible the request is withdrawn; no command waits. -/
theorem grantPost_withdrawn {s : State} (h : chooseChan s = none) (hc : s.engine.cmdReq = false) :
    grantPost s = setPostReq false s := by
  unfold grantPost
  rw [h]
  exact if_neg (by rw [show (setPostReq false s).engine.cmdReq = false from hc]; exact Bool.noConfusion)

/-- R23: without a request an arrival changes nothing. -/
theorem arrive_idle {s : State} (hp : s.engine.postReq = false) (hc : s.engine.cmdReq = false) : arrive s = s := by
  unfold arrive
  rw [arbitrate_idle s hp hc, ite_self]

/-- R26, R27: a waiting arithmetic command granted, its operation in flight. -/
theorem grantCommand_executing {s : State} (hphase : s.batch.phase ≠ .unwinding) {r : CmdRec} (hs : s.seq = .waiting r)
    {op : Opcode} (hop : opcodeOf r.code = some op) {x : Operation} (hx : arithOp op r.ops s.entries = some x) :
    grantCommand s
      = { s with seq := .executing r, engine := ⟨some x, .command, s.engine.postReq, false⟩ } := by
  have hside : x.kind.arbSide = .command := by cases op <;> cases hx <;> rfl
  rw [grantCommand_waiting hphase hs (by rw [hop]; exact hx)]
  unfold startOp
  rw [hside]
  rfl

/-- R26, R118: the newest record's restore granted. -/
theorem grantCommand_restoring {s : State} (hphase : s.batch.phase = .unwinding) {u : UndoRec} {us : List UndoRec}
    (hu : s.batch.undo = u :: us) :
    grantCommand s
      = { s with engine := ⟨some ⟨.restore u.prior, u.index⟩, .command, s.engine.postReq, false⟩ } :=
  grantCommand_restore hphase hu

/-- Settles O31: the arbiter's table, with one equation for each grant. -/
theorem grantStartsOperation : Obligations.GrantStartsOperation := by
  intro s
  refine ⟨fun hb => congrArg _ (arrive_busy s hb), fun hp hc => congrArg _ (arrive_idle hp hc), ?_, ?_, ?_, ?_⟩
  · intro r op x hf hc hp hphase hs hop hx
    exact congrArg _ ((arrive_free s hf).trans
      ((arbitrate_command hc hp).trans (grantCommand_executing hphase hs hop hx)))
  · intro u us hf hc hp hphase hu
    exact congrArg _ ((arrive_free s hf).trans ((arbitrate_command hc hp).trans (grantCommand_restoring hphase hu)))
  · intro ch hf hp hc hch
    exact congrArg _ ((arrive_free s hf).trans ((arbitrate_post hp hc).trans (grantPost_chosen hch)))
  · intro hf hp hc hch
    exact congrArg _ ((arrive_free s hf).trans ((arbitrate_post hp (.inl hc)).trans (grantPost_withdrawn hch hc)))

/-! #### A unit arrives at an ARMED channel (R49, R50) -/

theorem setChan_setChan (cs : Vector Channel 8) (ch : Fin 8) (c d : Channel) :
    setChan (setChan cs ch c) ch d = setChan cs ch d := Vector.set_set ..

/-- R49: the channel with its divider reloaded and the unit counted or dropped. -/
def arrivedChan (c : Channel) : Channel := countUnit { c with divCount := c.record.divider }

theorem arrivedChan_counted {c : Channel} (h : c.units < 255) :
    arrivedChan c = { c with
      divCount := c.record.divider, units := c.units + 1, rate := min 65535 (c.rate + 1) } :=
  if_pos h

theorem arrivedChan_dropped {c : Channel} (h : 255 ≤ c.units) :
    arrivedChan c = { c with
      divCount := c.record.divider, dropped := min 65535 (c.dropped + 1), overrun := true
      rate := min 65535 (c.rate + 1) } :=
  if_neg (Nat.not_lt.mpr h)

/-- R49, R50, R56: UNIT_ARRIVAL at an ARMED channel: the count, the OVERRUN event, and the scheduler's request. -/
theorem exec_unitArrival {ch : Fin 8} {s : State} (ha : s.chans[ch].input = .armed) :
    exec (.unitArrival ch) s = .next (schedule
      (if raisesOverrun s.chans[ch]
        then appendEvent ⟨.overrun, byteOf ch.val, 0⟩ (s.withChans (setChan s.chans ch (arrivedChan s.chans[ch])))
        else s.withChans (setChan s.chans ch (arrivedChan s.chans[ch])))) := by
  refine congrArg Host.Outcome.next ((if_pos ha).trans ?_)
  unfold unitArrives
  dsimp only
  rw [State.withChans_chans, setChan_get_self, setChan_setChan]
  rfl

theorem raisesOverrun_eq_false {c : Channel} (h : c.units < 255 ∨ c.overrun = true) : raisesOverrun c = false := by
  unfold raisesOverrun
  rcases h with h | h
  · rw [decide_eq_true h]
    rfl
  · rw [h]
    exact Bool.and_false _

theorem raisesOverrun_eq_true {c : Channel} (h : 255 ≤ c.units) (ho : c.overrun = false) : raisesOverrun c = true := by
  unfold raisesOverrun
  rw [decide_eq_false (Nat.not_lt.mpr h), ho]
  rfl

/-- R49: a unit that raises no OVERRUN event. -/
theorem exec_unitArrival_quiet {ch : Fin 8} {s : State} (ha : s.chans[ch].input = .armed)
    (hq : s.chans[ch].units < 255 ∨ s.chans[ch].overrun = true) :
    exec (.unitArrival ch) s = .next (schedule (s.withChans (setChan s.chans ch (arrivedChan s.chans[ch])))) := by
  rw [exec_unitArrival ha, raisesOverrun_eq_false hq]
  rfl

/-- R23, R56: at a busy engine the scheduler's request is brought up to date and waits. -/
theorem schedule_busy {s : State} (h : engineFree s = false) : schedule s = refreshPostReq s :=
  arrive_busy (refreshPostReq s) h

/-- R56: with no channel eligible and no command waiting, nothing is granted. -/
theorem schedule_none {s : State} (hc : s.engine.cmdReq = false) (h : anyEligible s = false) :
    schedule s = setPostReq false s := by
  unfold schedule refreshPostReq
  rw [h]
  exact arrive_idle rfl hc

theorem anyEligible_eq_false {s : State} (h : ∀ ch : Fin 8, eligible s ch = false) : anyEligible s = false :=
  List.any_eq_false.mpr fun ch _ => by rw [h ch]; exact Bool.noConfusion

theorem anyEligible_of_eligible {s : State} {ch : Fin 8} (h : eligible s ch = true) : anyEligible s = true :=
  List.any_eq_true.mpr ⟨ch, mem_allChans ch, h⟩

theorem eligible_of_no_units {s : State} {ch : Fin 8} (h : s.chans[ch].units = 0) : eligible s ch = false := by
  unfold eligible
  rw [h]
  rfl

/-- R57: the search reaches every channel, so the only eligible one is chosen. -/
theorem chooseChan_only {s : State} {ch : Fin 8} (h : eligible s ch = true)
    (hother : ∀ k, k ≠ ch → eligible s k = false) : chooseChan s = some ch := by
  cases hc : chooseChan s with
  | none => exact absurd (anyEligible_of_eligible h) (by rw [anyEligible_of_chooseChan_none hc]; exact Bool.noConfusion)
  | some k =>
    by_cases hk : k = ch
    · rw [hk]
    · exact absurd (eligible_of_chooseChan hc) (by rw [hother k hk]; exact Bool.noConfusion)

/-- R57, R23: at a FREE engine without a waiting command the scheduler's choice is posted at once. -/
theorem schedule_chosen {s : State} (hf : engineFree s = true) (hc : s.engine.cmdReq = false) {ch : Fin 8}
    (h : chooseChan s = some ch) : schedule s = startPost ch (refreshPostReq s) := by
  have hp : (refreshPostReq s).engine.postReq = true := anyEligible_of_eligible (eligible_of_chooseChan h)
  exact (arrive_free (refreshPostReq s) hf).trans ((arbitrate_post hp (.inl hc)).trans (grantPost_chosen h))

/-- R57: what starting a post leaves of the engine. -/
theorem startPost_engine (ch : Fin 8) (s : State) :
    (startPost ch s).engine
      = ⟨some ⟨.post ch s.chans[ch].record.weight s.chans[ch].record.dir, s.chans[ch].record.target⟩, .post,
        anyEligible (startPost ch s), s.engine.cmdReq⟩ := rfl

/-- R57: a post started for the last pending unit leaves no request of the post side. -/
theorem startPost_last {ch : Fin 8} {s : State} {c : Channel} {cs : Vector Channel 8} (hself : s.chans[ch] = c)
    (hcs : setChan s.chans ch { c with units := c.units - 1 } = cs) (hc : s.engine.cmdReq = false)
    (hlast : ∀ k : Fin 8, cs[k].units = 0) :
    startPost ch s = { s with
      chans := cs, schedPtr := ch + 1
      engine := ⟨some ⟨.post ch c.record.weight c.record.dir, c.record.target⟩, .post, false, false⟩ } := by
  subst hself hcs
  have hnone : anyEligible (startPost ch s) = false := anyEligible_eq_false fun k => eligible_of_no_units (hlast k)
  rw [startPost_eq, startPost_engine, hnone, hc]

/-- R49, R57: the only pending unit, of a channel whose chain is clear, is posted at a FREE engine as it arrives. -/
theorem schedule_firstUnit {ch : Fin 8} {s : State} (hf : engineFree s = true) (hc : s.engine.cmdReq = false)
    (hnone : ∀ k : Fin 8, s.chans[k].units = 0) (hheld : chainHeld s.entries s.chans[ch].record.target = false) :
    schedule (s.withChans (setChan s.chans ch (arrivedChan s.chans[ch]))) = { s with
      chans := setChan s.chans ch { s.chans[ch] with
        divCount := s.chans[ch].record.divider, rate := min 65535 (s.chans[ch].rate + 1) }
      schedPtr := ch + 1
      engine := ⟨some ⟨.post ch s.chans[ch].record.weight s.chans[ch].record.dir, s.chans[ch].record.target⟩, .post,
        false, false⟩ } := by
  rw [arrivedChan_counted (by rw [hnone ch]; omega)]
  generalize hd : ({ s.chans[ch] with
    divCount := s.chans[ch].record.divider, units := s.chans[ch].units + 1
    rate := min 65535 (s.chans[ch].rate + 1) } : Channel) = d
  have hself : (setChan s.chans ch d)[ch] = d := setChan_get_self _ _ _
  have hrecord : d.record = s.chans[ch].record := by rw [← hd]
  have hchosen : chooseChan (s.withChans (setChan s.chans ch d)) = some ch := by
    refine chooseChan_only (eligible_iff.mpr ?_) fun k hk => eligible_of_no_units ?_
    · rw [State.withChans_chans, hself, hrecord, ← hd]
      exact ⟨Nat.succ_pos _, hheld⟩
    · exact (congrArg Channel.units (setChan_get_ne s.chans d hk)).trans (hnone k)
  have hlast : ∀ k : Fin 8, (setChan s.chans ch { d with units := d.units - 1 })[k].units = 0 := fun k => by
    by_cases hk : k = ch
    · rw [hk, setChan_get_self, ← hd]
      exact hnone ch
    · rw [setChan_get_ne _ _ hk]
      exact hnone k
  have hposted := (schedule_chosen (s := s.withChans (setChan s.chans ch d)) hf hc hchosen).trans
    (startPost_last (s := refreshPostReq (s.withChans (setChan s.chans ch d))) hself (setChan_setChan s.chans ch d _) hc
      hlast)
  subst hd
  exact hposted

/-- R55, R56: with every channel that has units behind a held chain, no request is made. -/
theorem schedule_allHeld {ch : Fin 8} {s : State} (hc : s.engine.cmdReq = false) (hroom : s.chans[ch].units < 255)
    (hheld : ∀ k : Fin 8, 0 < s.chans[k].units ∨ k = ch → chainHeld s.entries s.chans[k].record.target = true) :
    schedule (s.withChans (setChan s.chans ch (arrivedChan s.chans[ch])))
      = setPostReq false (s.withChans (setChan s.chans ch (arrivedChan s.chans[ch]))) := by
  refine schedule_none (s := s.withChans (setChan s.chans ch _)) hc
    (anyEligible_eq_false fun k => Bool.eq_false_iff.mpr fun hk => ?_)
  obtain ⟨hunits, hclear⟩ := eligible_iff.mp hk
  have htarget : (setChan s.chans ch (arrivedChan s.chans[ch]))[k].record.target = s.chans[k].record.target
      ∧ (0 < s.chans[k].units ∨ k = ch) := by
    by_cases hkc : k = ch
    · subst hkc
      rw [setChan_get_self, arrivedChan_counted hroom]
      exact ⟨rfl, .inr rfl⟩
    · rw [State.withChans_chans, setChan_get_ne _ _ hkc] at hunits
      rw [setChan_get_ne _ _ hkc]
      exact ⟨rfl, .inl hunits⟩
  rw [State.withChans_chans, htarget.1] at hclear
  exact Bool.noConfusion ((hheld k htarget.2).symm.trans hclear)

/-- Settles O22: the channel's count by its two branches, and the scheduler's request at a busy and at a FREE engine. -/
theorem unitArrivalCounts : Obligations.UnitArrivalCounts := by
  intro ch s ha
  refine ⟨fun hb hu => ?_, fun hb hu ho => ?_, fun hb hu ho => ?_, fun hf hc hnone hheld => ?_,
    fun hf hc hu hheld => ?_⟩
  · rw [exec_unitArrival_quiet ha (.inl hu), schedule_busy (s := s.withChans (setChan s.chans ch _)) hb,
      arrivedChan_counted hu]
    rfl
  · rw [exec_unitArrival_quiet ha (.inr ho), schedule_busy (s := s.withChans (setChan s.chans ch _)) hb,
      arrivedChan_dropped hu, ← ho]
    rfl
  · rw [exec_unitArrival ha, raisesOverrun_eq_true hu ho, if_pos rfl, arrivedChan_dropped hu]
    refine congrArg _ (schedule_busy ?_)
    unfold engineFree
    rw [(appendEvent_sameCore _ _).engine]
    exact hb
  · rw [exec_unitArrival_quiet ha (.inl (by rw [hnone ch]; omega)), schedule_firstUnit hf hc hnone hheld]
  · rw [exec_unitArrival_quiet ha (.inl hu), schedule_allHeld hc hu hheld, arrivedChan_counted hu]
    rfl

end Sys2Proof.Machine
end

section
/-! ### Posts and the commands outside a batch complete -/

namespace Sys2Proof.Machine

open Sys2Proof.Safety

/-! #### A post completes (R29, R37) -/

/-- R29, R133: the store with an operation's writes made and evaluated. -/
def committedStore (x : Operation) (es : Vector Entry 32) : Vector Entry 32 :=
  (evaluateAll (opWrites x es).2 ((opWrites x es).1.map fun w => w.index)).1

/-- R29, R37: the state that a post's completion leaves to the arbiter. -/
def postedState (x : Operation) (s : State) : State :=
  freeEngine (appendThreads
    [postEvents (committedStore x s.entries) (opWrites x s.entries).1,
      (evaluateAll (opWrites x s.entries).2 ((opWrites x s.entries).1.map fun w => w.index)).2]
    (s.withEntries (committedStore x s.entries)))

theorem postDone_eq (x : Operation) (s : State) : postDone x s = arbitrate (postedState x s) := rfl

/-- R29, R37: what a post's completion touches before the arbiter decides. -/
theorem postedState_eq (x : Operation) (s : State) : ∃ q f n, postedState x s
    = ((((freeEngine s).withEntries (committedStore x s.entries)).withEvents q).withIrqFlag f).withFreeCount n := by
  obtain ⟨q, f, n, h⟩ := appendThreads_eq
    [postEvents (committedStore x s.entries) (opWrites x s.entries).1,
      (evaluateAll (opWrites x s.entries).2 ((opWrites x s.entries).1.map fun w => w.index)).2]
    (s.withEntries (committedStore x s.entries))
  refine ⟨q, f, n, ?_⟩
  unfold postedState
  rw [h]
  rfl

theorem exec_postCompletion {s : State} {ch : Fin 8} {w : Nat} {d : Direction} {g : Fin 32}
    (hx : s.engine.inFlight = some ⟨.post ch w d, g⟩) :
    exec .postCompletion s = .next (postDone ⟨.post ch w d, g⟩ s) := by
  change execPostCompletion s = _
  unfold execPostCompletion
  rw [hx]

/-- Settles O33: everything but the store and the events is left to the arbiter, which touches the engine, the channels,
the scheduler's pointer and the sequencer. -/
theorem postCompletionPosts : Obligations.PostCompletionPosts := by
  intro s ch w d g hx
  refine ⟨_, exec_postCompletion hx, ?_⟩
  obtain ⟨q, f, n, hposted⟩ := postedState_eq ⟨.post ch w d, g⟩ s
  rw [postDone_eq]
  generalize postedState ⟨.post ch w d, g⟩ s = v at hposted ⊢
  have hentries : v.entries = committedStore ⟨.post ch w d, g⟩ s.entries := by rw [hposted]; rfl
  have hengine : v.engine = { s.engine with inFlight := none } := by rw [hposted]; rfl
  have hbatch : v.batch = s.batch := by rw [hposted]; rfl
  have hseq : v.seq = s.seq := by rw [hposted]; rfl
  have hchans : v.chans = s.chans ∧ v.schedPtr = s.schedPtr := by rw [hposted]; exact ⟨rfl, rfl⟩
  refine ⟨(arbitrate_entries v).trans hentries, ?_, ?_, ?_, ?_, ?_, ?_, ?_, ?_, ?_, fun hp hc => ?_,
    fun r op y hc hl hphase hs hop hy => ?_⟩
  case refine_10 =>
    rw [arbitrate_idle v (by rw [hengine]; exact hp) (by rw [hengine]; exact hc)]
    exact ⟨hengine, hseq, hchans⟩
  case refine_11 =>
    rw [arbitrate_entries] at hy
    rw [arbitrate_command (s := v) (by rw [hengine]; exact hc) (.inr (by rw [hengine]; exact hl)),
      grantCommand_executing (by rw [hbatch]; exact hphase) (hseq.trans hs) hop hy, hengine]
    exact ⟨rfl, rfl, hchans.1⟩
  all_goals rw [arbitrate_eq, hposted]; rfl

/-! #### Events appended beside other changes (R142) -/

/-- R142: events are appended to the event queue and set EVT whatever else has changed. -/
theorem appendAll_comm {g : State → State} (events : ∀ s, (g s).events = s.events := by exact fun _ => rfl)
    (queue : ∀ s q, (g s).withEvents q = g (s.withEvents q) := by exact fun _ _ => rfl)
    (evt : ∀ s, setEvt (g s) = g (setEvt s) := by exact fun _ => rfl) :
    ∀ (evs : List EventBody) (s : State), appendAll evs (g s) = g (appendAll evs s)
  | [], _ => rfl
  | b :: evs, s => by
    have hone : appendEvent b (g s) = g (appendEvent b s) := by
      unfold appendEvent placeEvent
      rw [events, apply_ite g, queue, queue, evt]
    have ih := appendAll_comm events queue evt evs (appendEvent b s)
    rw [← hone] at ih
    exact ih

theorem appendAll_eq : ∀ (evs : List EventBody) (s : State),
    ∃ q w, appendAll evs s = (s.withEvents q).withWindow w
  | [], s => ⟨s.events, s.window, rfl⟩
  | b :: evs, s => by
    obtain ⟨q, f, h⟩ := appendEvent_eq b s
    obtain ⟨q', w', h'⟩ := appendAll_eq evs (appendEvent b s)
    refine ⟨q', w', h'.trans ?_⟩
    rw [h]
    rfl

/-! #### An arithmetic command completes outside a batch (R98, R133) -/

/-- R21: an operation of the command side that is no restore is arithmetic. -/
theorem isArith_of_side {k : OpKind} (hside : k.arbSide = .command) (hr : ∀ p, k ≠ .restore p) : k.isArith = true := by
  cases k with
  | post ch w d => cases hside
  | restore p => exact absurd rfl (hr p)
  | _ => rfl

theorem exec_arithmeticCompletion {s : State} {r : CmdRec} {x : Operation} (hs : s.seq = .executing r)
    (hx : s.engine.inFlight = some x) (hk : x.kind.isArith = true) :
    exec .arithmeticCompletion s = .next (arithDone r x s) := by
  change execArithmeticCompletion s = _
  unfold execArithmeticCompletion
  rw [hx, hs]
  obtain ⟨k, g⟩ := x
  cases k with
  | post ch w d => cases hk
  | restore p => cases hk
  | _ => rfl

theorem arithDone_plain (r : CmdRec) (x : Operation) {s : State} (hm : s.batch.member = false) :
    arithDone r x s = resume (arbitrate (freeEngine (plainDone (opWrites x s.entries).1 (finishedState r x s)))) := by
  unfold arithDone
  dsimp only
  rw [if_neg (by rw [hm]; exact Bool.noConfusion)]
  rfl

/-- R98: a completion that is owed appends the record of the command in hand. -/
theorem finishCommand_owed {s : State} (ho : s.owed = true) {r : CmdRec} {op : Opcode} (hop : opcodeOf r.code = some op)
    (f : FlagWord) : finishCommand r f s = complete op r.ops .done (s.withFlags f) := by
  unfold finishCommand
  rw [if_pos ho, hop]

/-- R133: the writes of a completion outside a batch evaluated, and the events appended. -/
theorem plainDone_eq (ws : List Written) (s : State) :
    plainDone ws s = appendAll (evaluateAll s.entries (ws.map fun w => w.index)).2
      (s.withEntries (evaluateAll s.entries (ws.map fun w => w.index)).1) := appendThreads_single _ _

/-- R98: the record of a command with flags f appended and a store es in place, whatever events there are. -/
def plainFinish (es : Vector Entry 32) (f : FlagWord) (r : CmdRec) (op : Opcode) (s : State) : State :=
  ((complete op r.ops .done ((s.withEntries es).withFlags f)).withSeq .stalled)

/-- R77, R98: the flags of an operation's result. -/
def completionFlags (x : Operation) (es : Vector Entry 32) : FlagWord :=
  opFlags x es (opWrites x es).2 (opWrites x es).1

/-- R133: the events of an operation's writes appended. -/
def committedEvents (x : Operation) (s : State) : State :=
  appendAll (evaluateAll (opWrites x s.entries).2 ((opWrites x s.entries).1.map fun w => w.index)).2 s

theorem plainDone_finished {s : State} {r : CmdRec} {op : Opcode} (hop : opcodeOf r.code = some op)
    (ho : s.owed = true) (x : Operation) : plainDone (opWrites x s.entries).1 (finishedState r x s)
      = plainFinish (committedStore x s.entries) (completionFlags x s.entries) r op (committedEvents x s) := by
  rw [plainDone_eq, finishedState_entries]
  unfold finishedState
  rw [finishCommand_owed (s := s.withEntries (opWrites x s.entries).2) ho hop]
  exact appendAll_comm (g := plainFinish (committedStore x s.entries) (completionFlags x s.entries) r op)
    (evs := _) (s := s)

/-- R30–R34, R98: the state in which a command outside a batch has completed with nothing else waiting. -/
def plainCompleted (r : CmdRec) (op : Opcode) (x : Operation) (s : State) : State :=
  { s with
    entries := committedStore x s.entries, flags := completionFlags x s.entries
    ring := s.ring ++ [⟨r.ops.tag, opcodeByte op, .done, completionFlags x s.entries⟩]
    events := (committedEvents x s).events, engine := { s.engine with inFlight := none }, seq := .idle, owed := false
    window := { (committedEvents x s).window with
      irqFlag := { (committedEvents x s).window.irqFlag with comp := true, quiet := true } } }

theorem exec_arithmeticCompletion_plain {s : State} {r : CmdRec} {op : Opcode} {x : Operation}
    (hs : s.seq = .executing r) (hop : opcodeOf r.code = some op) (hx : s.engine.inFlight = some x)
    (hk : x.kind.isArith = true) (ho : s.owed = true) (hm : s.batch.member = false) (hp : s.batch.phase = .none)
    (hq : s.cmdQueue = []) (hpost : s.engine.postReq = false) (hcmd : s.engine.cmdReq = false) :
    exec .arithmeticCompletion s = .next (plainCompleted r op x s) := by
  unfold plainCompleted
  rw [exec_arithmeticCompletion hs hx hk, arithDone_plain r x hm, plainDone_finished hop ho]
  obtain ⟨q, w, hevents⟩ : ∃ q w, committedEvents x s = (s.withEvents q).withWindow w := appendAll_eq _ s
  rw [hevents, arbitrate_idle, resume_eq, if_neg, handOn_idle]
  · rfl
  · exact hq
  · rfl
  · exact fun h => nomatch hp.symm.trans h
  · exact fun h => nomatch hp.symm.trans h
  · exact hpost
  · exact hcmd

/-- R3: a value whose zero is positive is what its sign and magnitude make. -/
theorem Dec.make_self {d : Dec} (h : d.mag = 0 → d.neg = false) : Dec.make d.neg d.mag = d := by
  rcases Nat.eq_zero_or_pos d.mag with h0 | hpos
  · rw [h h0]
    obtain ⟨n, m⟩ := d
    cases h h0
    rfl
  · exact Dec.make_of_pos hpos

/-- R32, R33: the write of a value that fits its entry. -/
theorem singleWrite_fits {es : Vector Entry 32} {i : Fin 32} {d : Dec} (h : ValueFits es[i].attr.width d) :
    (singleWrite es i d).2 = setEntry es i { es[i] with value := d } := by
  have hstore : (singleWrite es i d).2 = (fitEntry es i d).2.2 := rfl
  rw [hstore, fitEntry_store, fit_inRange h.1, Dec.make_self h.2]

/-- R32: the sign of a value that fits reversed. -/
theorem flip_fits {n : Nat} {d : Dec} (h : ValueFits n d) : ValueFits n d.flip :=
  ⟨h.1, Dec.make_zero_positive _ _⟩

theorem zero_fits (n : Nat) : ValueFits n Dec.zero := ⟨Nat.pow_pos (by omega), fun _ => rfl⟩

/-- R34: a comparison writes nothing. -/
theorem committedStore_compare (src : Dec) (g : Fin 32) (es : Vector Entry 32) :
    committedStore ⟨.compare src, g⟩ es = es := rfl

/-- R34. -/
theorem completionFlags_compare (src : Dec) (g : Fin 32) (es : Vector Entry 32) :
    completionFlags ⟨.compare src, g⟩ es
      = ⟨decide (es[g].value.toInt < src.toInt), decide (es[g].value.toInt = src.toInt), false, false⟩ := rfl

/-- Settles O35: the exact next state, and the writes of each kind of operation. -/
theorem arithmeticCompletionOutsideBatch : Obligations.ArithmeticCompletionOutsideBatch := by
  intro s r op x hs hop hx hside hrestore ho hm hp hq hpost hcmd
  refine ⟨_, exec_arithmeticCompletion_plain hs hop hx (isArith_of_side hside hrestore) ho hm hp hq hpost hcmd, ?_⟩
  obtain ⟨k, g⟩ := x
  refine ⟨rfl, ?_, ?_, ?_, ?_, ?_, ?_, rfl, rfl, rfl⟩
  · rintro src rfl
    rfl
  · rintro src rfl
    rfl
  · rintro src rfl
    rfl
  · rintro rfl hstore
    exact singleWrite_fits (flip_fits (hstore g).1)
  · rintro rfl hstore
    exact singleWrite_fits (zero_fits _)
  · rintro src rfl
    exact ⟨committedStore_compare src g s.entries, completionFlags_compare src g s.entries⟩

end Sys2Proof.Machine
end

section
/-! ### A restore completes: the unwinding goes on, or ends -/

namespace Sys2Proof.Machine

open Sys2Proof.Safety

/-! #### What a decision of the arbiter leaves alone -/

/-- R24: a decision is about the engine, the channels, the scheduler's pointer and the sequencer; nothing else
changes. -/
structure GrantKept (s t : State) : Prop where
  entries : t.entries = s.entries := by rfl
  cmdQueue : t.cmdQueue = s.cmdQueue := by rfl
  owed : t.owed = s.owed := by rfl
  flags : t.flags = s.flags := by rfl
  ring : t.ring = s.ring := by rfl
  batch : t.batch = s.batch := by rfl
  events : t.events = s.events := by rfl
  interval : t.interval = s.interval := by rfl
  link : t.link = s.link := by rfl
  seq : SeqKept s t := by exact .inl rfl

theorem GrantKept.trans {s t u : State} (h : GrantKept s t) (h' : GrantKept t u) (hseq : t.seq = s.seq) :
    GrantKept s u :=
  ⟨h'.entries.trans h.entries, h'.cmdQueue.trans h.cmdQueue, h'.owed.trans h.owed, h'.flags.trans h.flags,
    h'.ring.trans h.ring, h'.batch.trans h.batch, h'.events.trans h.events, h'.interval.trans h.interval,
    h'.link.trans h.link, h'.seq.of_seq hseq⟩

theorem arbitrate_grantKept (s : State) : GrantKept s (arbitrate s) := by
  have hseq := arbitrate_seqKept s
  rw [arbitrate_eq] at hseq ⊢
  exact { seq := hseq }

theorem arrive_grantKept (s : State) : GrantKept s (arrive s) := by
  unfold arrive
  split
  · exact arbitrate_grantKept s
  · exact {}

/-- R97: only a WAITING command leaves its state at a decision. -/
theorem GrantKept.seq_eq {s t : State} (h : GrantKept s t) (hw : isWaiting s.seq = false) : t.seq = s.seq := by
  rcases h.seq with hs | ⟨r, hs, -⟩
  · exact hs
  · rw [hs] at hw
    cases hw

/-- R25, R57: a decision that the command side does not ask for posts a unit whenever some channel is eligible. -/
theorem arbitrate_posts {s : State} (hp : s.engine.postReq = anyEligible s) (hc : s.engine.cmdReq = false) {ch : Fin 8}
    (he : eligible s ch = true) : ∃ c w d g, (arbitrate s).engine.inFlight = some ⟨.post c w d, g⟩ := by
  rw [arbitrate_post (hp.trans (anyEligible_of_eligible he)) (.inl hc)]
  cases hch : chooseChan s with
  | none =>
    cases (anyEligible_of_chooseChan_none hch).symm.trans (anyEligible_of_eligible he)
  | some c =>
    rw [grantPost_chosen hch]
    exact ⟨_, _, _, _, startPost_inFlight c s⟩

/-! #### The record of the ABORT in hand (R101, R119) -/

/-- R101: what the end of an unwinding does to the command in hand. -/
theorem finishAbort_eq (s : State) : finishAbort s = { s with
    ring := (finishAbort s).ring, owed := (finishAbort s).owed, window := (finishAbort s).window
    seq := (finishAbort s).seq } := by
  unfold finishAbort finishCommand
  split
  · split
    · split <;> rfl
    · rfl
  · rfl

theorem finishAbort_ring_owed {s : State} {r : CmdRec} {op : Opcode} (hs : s.seq = .unwinding (some r))
    (hop : opcodeOf r.code = some op) (ho : s.owed = true) :
    (finishAbort s).ring = s.ring ++ [⟨r.ops.tag, opcodeByte op, .done, s.flags⟩] := by
  unfold finishAbort
  rw [hs]
  dsimp only
  rw [finishCommand_owed ho hop]
  rfl

theorem finishAbort_ring_silent {s : State} (h : s.seq = .unwinding none ∨ s.owed = false) :
    (finishAbort s).ring = s.ring := by
  unfold finishAbort
  split
  · rename_i r hs
    have ho : s.owed = false := h.resolve_left fun hn => by cases hn.symm.trans hs
    unfold finishCommand
    rw [ho]
    rfl
  · rfl

/-! #### The two ways on from a restore (R118, R119) -/

theorem exec_restoreCompletion {s : State} {u : UndoRec} (hx : s.engine.inFlight = some ⟨.restore u.prior, u.index⟩) :
    exec .restoreCompletion s = .next (restoreDone ⟨.restore u.prior, u.index⟩ s) := by
  change execRestoreCompletion s = _
  unfold execRestoreCompletion
  rw [hx]

/-- R118: the state in which the arbiter decides when a restore has completed. -/
def freedState (u : UndoRec) (us : List UndoRec) (s : State) : State :=
  freeEngine (refreshPostReq (restoredState u us s))

theorem freedState_engine (u : UndoRec) (us : List UndoRec) (s : State) : (freedState u us s).engine
    = { s.engine with inFlight := none, postReq := anyEligible (freedState u us s) } := by
  have h : (restoredState u us s).engine = s.engine := by
    unfold restoredState
    cases us with
    | nil => exact (finishAbort_frame _).2.1
    | cons v vs => rfl
  rw [← h]
  rfl

theorem freedState_chans (u : UndoRec) (us : List UndoRec) (s : State) : (freedState u us s).chans = s.chans := by
  change (restoredState u us s).chans = _
  unfold restoredState
  cases us with
  | nil => exact (finishAbort_frame _).2.2.2.2
  | cons v vs => rfl

/-- R101: a sequencer without a command is UNWINDING while the batch is. -/
theorem handOn_unwinding_empty (e : Bool) {s : State} (hp : s.batch.phase = .unwinding) (he : hasCommand s = false) :
    handOn e s = s.withSeq (.unwinding none) := by
  rw [handOn_empty e he]
  unfold passOn passOnFor
  rw [if_pos hp]

/-- R101: a sequencer that is UNWINDING stays so while the batch does. -/
theorem handOn_unwinding_same {s : State} (hp : s.batch.phase = .unwinding) {a : Option CmdRec}
    (hs : s.seq = .unwinding a) : handOn true s = s := by
  cases a with
  | some r => exact handOn_hand true (by simp [hasCommand, inHand, hs])
  | none =>
    rw [handOn_unwinding_empty true hp (by simp [hasCommand, inHand, hs]), ← hs]
    rfl

/-- R118: with records left the next restore is asked for, behind a post that the decision has started. -/
theorem restoreDone_next {s : State} {u v : UndoRec} {vs : List UndoRec} {a : Option CmdRec} (hw : Unwinder s a)
    (hu : s.batch.undo = u :: v :: vs) : restoreDone ⟨.restore u.prior, u.index⟩ s
      = arrive (setCmdReq true (arbitrate (freedState u (v :: vs) s))) := by
  have hdecided := arbitrate_grantKept (freedState u (v :: vs) s)
  have hseq : (arbitrate (freedState u (v :: vs) s)).seq = .unwinding a :=
    (hdecided.seq_eq (by rw [show (freedState u (v :: vs) s).seq = _ from hw.seq]; rfl)).trans hw.seq
  have hphase : (arbitrate (freedState u (v :: vs) s)).batch.phase = .unwinding := by
    rw [hdecided.batch]
    exact hw.phase
  have hbegin : beginUnwind (arbitrate (freedState u (v :: vs) s))
      = arrive (setCmdReq true (arbitrate (freedState u (v :: vs) s))) := by
    unfold beginUnwind
    rw [hdecided.batch]
    rfl
  have harrived := arrive_grantKept (setCmdReq true (arbitrate (freedState u (v :: vs) s)))
  rw [restoreDone_eq hu, resume_eq]
  change handOn true (if (arbitrate (freedState u (v :: vs) s)).batch.phase = .unwinding then
    beginUnwind (arbitrate (freedState u (v :: vs) s)) else _) = _
  rw [if_pos hphase, hbegin]
  refine handOn_unwinding_same (by rw [harrived.batch]; exact hphase) (a := a) ((harrived.seq_eq ?_).trans hseq)
  rw [show (setCmdReq true (arbitrate (freedState u (v :: vs) s))).seq = _ from hseq]
  rfl

/-- R119: with no record left the unwinding ends, and the sequencer is IDLE. -/
theorem restoreDone_last {s : State} {u : UndoRec} {a : Option CmdRec} (hw : Unwinder s a) (hu : s.batch.undo = [u])
    (hq : s.cmdQueue = []) : restoreDone ⟨.restore u.prior, u.index⟩ s
      = setQuiet ((arbitrate (freedState u [] s)).withSeq .idle) := by
  obtain ⟨-, -, hqueue, hbatch, -⟩ := finishAbort_frame (endUnwind (undoneState u [] s))
  have hdecided := arbitrate_grantKept (freedState u [] s)
  have hseq : (freedState u [] s).seq = .unwinding none := finishAbort_seq (s := endUnwind (undoneState u [] s)) hw.seq
  have hseq' : (arbitrate (freedState u [] s)).seq = .unwinding none :=
    (hdecided.seq_eq (by rw [hseq]; rfl)).trans hseq
  have hphase : (arbitrate (freedState u [] s)).batch.phase ≠ .unwinding := by
    rw [hdecided.batch, show (freedState u [] s).batch = _ from hbatch]
    change endPhase s.batch.cause ≠ _
    rcases endPhase_cases s.batch.cause with h | h <;> rw [h] <;> exact nofun
  rw [restoreDone_eq hu, resume_eq]
  change handOn true (if (arbitrate (freedState u [] s)).batch.phase = .unwinding then _
    else arbitrate (freedState u [] s)) = _
  rw [if_neg hphase]
  exact handOn_idle (hdecided.cmdQueue.trans (hqueue.trans hq)) (by simp [hasCommand, inHand, hseq']) hphase

/-! #### The decision at a restore: a post first, or the next restore (R118) -/

/-- R55, R118: who is eligible at the decision is who is eligible with the entry restored. -/
theorem eligible_freedState {u : UndoRec} {us : List UndoRec} {s t : State}
    (ht : t.entries = restoredStore s.entries u) (ch : Fin 8) :
    eligible (freedState u us s) ch = eligible { s with entries := t.entries } ch := by
  have hentries : (freedState u us s).entries = t.entries := (restoredState_core u us s).1.trans ht.symm
  exact eligible_congr (by rw [freedState_chans]) (fun _ => by rw [freedState_chans]) fun g => by rw [hentries]

/-- R118: a channel released by the restore posts first. -/
theorem arbitrate_freed_posts {u : UndoRec} {us : List UndoRec} {s : State} {a : Option CmdRec} (hw : Unwinder s a)
    {ch : Fin 8} (he : eligible (freedState u us s) ch = true) :
    ∃ c w d g, (arbitrate (freedState u us s)).engine.inFlight = some ⟨.post c w d, g⟩ := by
  have hengine := freedState_engine u us s
  exact arbitrate_posts (congrArg Engine.postReq hengine) ((congrArg Engine.cmdReq hengine).trans hw.cmdReq) he

/-- R118: with no unit pending anywhere the next record's restore starts at once. -/
theorem restoreDone_next_inFlight {s : State} {u v : UndoRec} {vs : List UndoRec} {a : Option CmdRec}
    (hw : Unwinder s a) (hnone : ∀ ch : Fin 8, s.chans[ch].units = 0) :
    (arrive (setCmdReq true (arbitrate (freedState u (v :: vs) s)))).engine.inFlight
      = some ⟨.restore v.prior, v.index⟩ := by
  have hengine := freedState_engine u (v :: vs) s
  have hany : anyEligible (freedState u (v :: vs) s) = false :=
    anyEligible_eq_false fun ch => eligible_of_no_units (by rw [freedState_chans]; exact hnone ch)
  have hpost : (freedState u (v :: vs) s).engine.postReq = false := (congrArg Engine.postReq hengine).trans hany
  rw [arbitrate_idle _ hpost ((congrArg Engine.cmdReq hengine).trans hw.cmdReq),
    arrive_free (setCmdReq true (freedState u (v :: vs) s)) rfl,
    arbitrate_command (s := setCmdReq true (freedState u (v :: vs) s)) rfl (.inl hpost),
    grantCommand_restoring (s := setCmdReq true (freedState u (v :: vs) s)) hw.phase rfl]

/-- R119: the end of an unwinding touches the store, the batch unit, and what the record of the ABORT touches. -/
theorem freedState_last (u : UndoRec) (s : State) : (freedState u [] s).entries = restoredStore s.entries u
    ∧ (freedState u [] s).batch = { s.batch with phase := endPhase s.batch.cause, undo := [] }
    ∧ (freedState u [] s).events = s.events ∧ (freedState u [] s).flags = s.flags ∧ (freedState u [] s).link = s.link
    ∧ (freedState u [] s).interval = s.interval := by
  unfold freedState restoredState
  dsimp only
  rw [finishAbort_eq]
  exact ⟨rfl, rfl, rfl, rfl, rfl, rfl⟩

theorem freedState_ring_owed (u : UndoRec) {s : State} {r : CmdRec} {op : Opcode} (hs : s.seq = .unwinding (some r))
    (hop : opcodeOf r.code = some op) (ho : s.owed = true) :
    (freedState u [] s).ring = s.ring ++ [⟨r.ops.tag, opcodeByte op, .done, s.flags⟩] :=
  finishAbort_ring_owed (s := endUnwind (undoneState u [] s)) hs hop ho

theorem freedState_ring_silent (u : UndoRec) {s : State} (h : s.seq = .unwinding none ∨ s.owed = false) :
    (freedState u [] s).ring = s.ring :=
  finishAbort_ring_silent (s := endUnwind (undoneState u [] s)) h

/-- R118: what the unwinder's request touches besides the engine, the channels and the scheduler. -/
theorem arrive_requested_grantKept (s : State) : GrantKept s (arrive (setCmdReq true s)) :=
  GrantKept.trans (t := setCmdReq true s) {} (arrive_grantKept _) rfl

/-- Settles O37: by whether a record is left. In both cases the decision of the arbiter comes first (log 11). -/
theorem restoreCompletionUnwinds : Obligations.RestoreCompletionUnwinds := by
  intro s u us hinv hx hu hq
  have h : CoreInv s := ⟨hinv.sound, hinv.requests, hinv.rest⟩
  obtain ⟨a, us', hw, hu'⟩ := h.unwinder hx
  have hcommitted := restoreDone_committed h hx
  refine ⟨_, exec_restoreCompletion hx, ?_⟩
  cases us with
  | nil =>
    rw [restoreDone_last hw hu hq] at hcommitted ⊢
    have hdecided := arbitrate_grantKept (freedState u [] s)
    have hposts := fun ch => arbitrate_freed_posts (u := u) (us := []) hw (ch := ch)
    obtain ⟨hentries, hbatch, hevents, hflags, hlink, hinterval⟩ := freedState_last u s
    generalize arbitrate (freedState u [] s) = t at *
    have hstore := hdecided.entries.trans hentries
    have hended := hdecided.batch.trans hbatch
    refine ⟨hstore, congrArg Batch.undo hended, hdecided.events.trans hevents, hdecided.flags.trans hflags, hcommitted,
      hdecided.link.trans hlink, hdecided.interval.trans hinterval, nofun, fun _ => ⟨?_, rfl, rfl,
        fun r op hs hop ho => hdecided.ring.trans (freedState_ring_owed u hs hop ho),
        fun hsilent => hdecided.ring.trans (freedState_ring_silent u hsilent)⟩,
      fun ch he => hposts ch ((eligible_freedState hstore ch).trans he)⟩
    refine (congrArg Batch.phase hended).trans ?_
    cases s.batch.cause <;> rfl
  | cons v vs =>
    rw [restoreDone_next hw hu] at hcommitted ⊢
    have hdecided := arbitrate_grantKept (freedState u (v :: vs) s)
    have hposts := fun ch => arbitrate_freed_posts (u := u) (us := v :: vs) hw (ch := ch)
    have hrestore := restoreDone_next_inFlight (u := u) (v := v) (vs := vs) hw
    have hwait : isWaiting (freedState u (v :: vs) s).seq = false := by
      rw [show (freedState u (v :: vs) s).seq = _ from hw.seq]
      rfl
    have hall := hdecided.trans (arrive_requested_grantKept _) (hdecided.seq_eq hwait)
    have hflight := arrive_flight (setCmdReq true (arbitrate (freedState u (v :: vs) s)))
    generalize arrive (setCmdReq true (arbitrate (freedState u (v :: vs) s))) = t at *
    have hbatch : t.batch = { s.batch with undo := v :: vs } := hall.batch
    refine ⟨hall.entries, congrArg Batch.undo hbatch, hall.events, hall.flags, hcommitted, hall.link, hall.interval,
      fun v' vs' heq => ?_, nofun, fun ch he => ?_⟩
    · cases heq
      exact ⟨(congrArg Batch.phase hbatch).trans hw.phase, hall.ring, hall.seq_eq hwait, hrestore⟩
    · obtain ⟨c, w, d, g, hpost⟩ := hposts ch ((eligible_freedState hall.entries ch).trans he)
      exact ⟨c, w, d, g, hflight _ hpost⟩

end Sys2Proof.Machine
end

section
/-! ### The sequencer and the batch unit at an interface reset -/

namespace Sys2Proof.Machine

open Sys2Proof.Safety

/-! #### The sequencer's command (R41, R107) -/

/-- R107: a command EXECUTING, or an UNWINDING sequencer, is kept. -/
theorem resetSequencer_kept {s : State} (h : (∃ r, s.seq = .executing r) ∨ ∃ a, s.seq = .unwinding a) :
    (resetSequencer (resetHostState s)).seq = s.seq ∧ (resetSequencer (resetHostState s)).engine = s.engine := by
  have hseq := resetHostState_seq s
  have hengine := resetHostState_engine s
  unfold resetSequencer
  rcases h with ⟨r, hs⟩ | ⟨a, hs⟩ <;> rw [hseq, hs] <;> exact ⟨hseq.trans hs, hengine⟩

/-- R22: outside an unwinding only a WAITING command has a request. -/
theorem CoreInv.cmdReq_of_idle {s : State} (h : CoreInv s) (hp : s.batch.phase ≠ .unwinding)
    (hw : isWaiting s.seq = false) : s.engine.cmdReq = false := by
  rw [h.requests.2.1, wantsCommand_eq, hw, beq_eq_false_iff_ne.mpr hp]
  rfl

/-- R41, R107: outside an unwinding a command that is not EXECUTING is discarded, and its request withdrawn. -/
theorem resetSequencer_idle {s : State} (h : CoreInv s) (hp : s.batch.phase ≠ .unwinding)
    (he : isExecuting s.seq = false) : (resetSequencer (resetHostState s)).seq = .idle
      ∧ (resetSequencer (resetHostState s)).engine = { s.engine with cmdReq := false } := by
  have hengine := resetHostState_engine s
  have hquiet : isWaiting s.seq = false → (resetHostState s).engine = { s.engine with cmdReq := false } := fun hw => by
    rw [hengine, ← h.cmdReq_of_idle hp hw]
  unfold resetSequencer
  rw [resetHostState_seq]
  cases hs : s.seq with
  | executing r => rw [hs] at he; cases he
  | unwinding a => exact absurd ((handSound_unwinding hs).mp h.sound.hand).1 hp
  | waiting r => exact ⟨rfl, congrArg (fun e : Engine => { e with cmdReq := false }) hengine⟩
  | idle => exact ⟨rfl, hquiet (by rw [hs]; rfl)⟩
  | stalled => exact ⟨rfl, hquiet (by rw [hs]; rfl)⟩

/-! #### The sequencer once the batch unit is reset (R107) -/

theorem hasCommand_idle {s : State} (h : s.seq = .idle) : hasCommand s = false := by
  unfold hasCommand
  rw [h]
  rfl

theorem settleReset_hand {s : State} (h : hasCommand s = true) : settleReset s = s := by
  unfold settleReset
  rw [if_pos h]

theorem settleReset_idle {s : State} (he : hasCommand s = false) (hp : s.batch.phase ≠ .unwinding) :
    settleReset s = s.withSeq .idle := by
  unfold settleReset
  rw [if_neg (by rw [he]; exact Bool.noConfusion), if_neg hp]

theorem settleReset_unwinding {s : State} (he : hasCommand s = false) (hp : s.batch.phase = .unwinding) :
    settleReset s = s.withSeq (.unwinding none) := by
  unfold settleReset
  rw [if_neg (by rw [he]; exact Bool.noConfusion), if_pos hp]

/-! #### The reset in each batch state (R128–R130) -/

theorem interfaceReset_unfold (s : State) :
    interfaceReset s = settleReset (resetBatch (memberExecuting s) (resetSequencer (resetHostState s))) := rfl

theorem resetBatch_none {s : State} (e : Bool) (hp : s.batch.phase = .none) : resetBatch e s = s := by
  unfold resetBatch
  rw [hp]

theorem resetBatch_void {s : State} (e : Bool) (hp : s.batch.phase = .void) :
    resetBatch e s = s.withBatch { s.batch with phase := .none } := by
  unfold resetBatch
  rw [hp]

theorem resetBatch_unwinding {s : State} (e : Bool) (hp : s.batch.phase = .unwinding) :
    resetBatch e s = s.withBatch { s.batch with cause := .reset } := by
  unfold resetBatch
  rw [hp]

/-- R128, R129: an open batch unwinds with cause RESET, its timer stopped and no expiry deferred. -/
def resetOpened (executing : Bool) (b : Batch) : Batch :=
  { b with phase := .unwinding, cause := .reset, timer := none, deferred := false, member := executing }

theorem resetBatch_executing {s : State} (hp : s.batch.phase = .opened) :
    resetBatch true s = s.withBatch (resetOpened true s.batch) := by
  unfold resetBatch
  rw [hp]
  rfl

theorem resetBatch_opened {s : State} (hp : s.batch.phase = .opened) :
    resetBatch false s = beginUnwind (s.withBatch (resetOpened false s.batch)) := by
  unfold resetBatch
  rw [hp]
  rfl

section

variable {s : State} (h : CoreInv s)

include h

/-- R107: without a batch an EXECUTING command is kept, and any other sequencer is IDLE. -/
theorem interfaceReset_none (hp : s.batch.phase = .none) : (interfaceReset s).batch = s.batch
    ∧ (interfaceReset s).seq = (match s.seq with | .executing r => .executing r | _ => .idle)
    ∧ (interfaceReset s).engine.cmdReq = false := by
  have hbatch := resetSequencer_batch s
  rw [interfaceReset_unfold, resetBatch_none _ (by rw [hbatch]; exact hp)]
  by_cases hx : ∃ r, s.seq = .executing r
  · obtain ⟨hseq, hengine⟩ := resetSequencer_kept (.inl hx)
    obtain ⟨r, hs⟩ := hx
    rw [settleReset_hand (hasCommand_executing (hseq.trans hs)), hseq, hengine, hs]
    exact ⟨hbatch, rfl, h.cmdReq_of_executing hs⟩
  · have hexec : isExecuting s.seq = false := by
      cases hs : s.seq with
      | executing r => exact absurd ⟨r, hs⟩ hx
      | _ => rfl
    obtain ⟨hseq, hengine⟩ := resetSequencer_idle h (by rw [hp]; exact nofun) hexec
    rw [settleReset_idle (hasCommand_idle hseq) (by rw [hbatch, hp]; exact nofun)]
    refine ⟨hbatch, ?_, (congrArg Engine.cmdReq hengine :)⟩
    cases hs : s.seq with
    | executing r => exact absurd ⟨r, hs⟩ hx
    | _ => rfl

/-- R130: a void is closed. -/
theorem interfaceReset_void (hp : s.batch.phase = .void) :
    (interfaceReset s).batch = { s.batch with phase := .none } ∧ (interfaceReset s).seq = .idle := by
  have hbatch := resetSequencer_batch s
  have hexec : isExecuting s.seq = false := by
    cases hs : s.seq with
    | executing r => exact absurd hp ((handSound_executing hs).mp h.sound.hand).1
    | _ => rfl
  obtain ⟨hseq, -⟩ := resetSequencer_idle h (by rw [hp]; exact nofun) hexec
  rw [interfaceReset_unfold, resetBatch_void _ (by rw [hbatch]; exact hp), settleReset_idle]
  · exact ⟨by rw [← hbatch]; rfl, rfl⟩
  · exact hasCommand_idle hseq
  · exact nofun

/-- R130: an unwinding goes on with cause RESET. -/
theorem interfaceReset_unwinding (hp : s.batch.phase = .unwinding) :
    (interfaceReset s).batch = { s.batch with cause := .reset } ∧ (interfaceReset s).seq = s.seq
      ∧ (interfaceReset s).engine = s.engine := by
  have hbatch := resetSequencer_batch s
  have hkept : (∃ r, s.seq = .executing r) ∨ ∃ a, s.seq = .unwinding a := by
    cases hexec : isExecuting s.seq with
    | false => exact .inr (h.unwinding_seq hp hexec)
    | true =>
      cases hs : s.seq with
      | executing r => exact .inl ⟨r, rfl⟩
      | _ => rw [hs] at hexec; cases hexec
  obtain ⟨hseq, hengine⟩ := resetSequencer_kept hkept
  rw [interfaceReset_unfold, resetBatch_unwinding _ (by rw [hbatch]; exact hp), hbatch]
  generalize resetSequencer (resetHostState s) = q at *
  cases hhand : hasCommand q with
  | true =>
    rw [settleReset_hand (s := q.withBatch { s.batch with cause := .reset }) hhand]
    exact ⟨rfl, hseq, hengine⟩
  | false =>
    rw [settleReset_unwinding (s := q.withBatch { s.batch with cause := .reset }) hhand hp]
    refine ⟨rfl, ?_, hengine⟩
    rcases hkept with ⟨r, hs⟩ | ⟨a, hs⟩ <;> rw [← hseq] at hs ⊢
    · cases (hasCommand_executing hs).symm.trans hhand
    · rw [hs]
      cases a with
      | none => rfl
      | some r => simp [hasCommand, inHand, hs] at hhand

/-- R129: the unwinder waits for the command of the batch that is EXECUTING. -/
theorem interfaceReset_executing (hp : s.batch.phase = .opened) {r : CmdRec} (hs : s.seq = .executing r) :
    (interfaceReset s).batch = { s.batch with phase := .unwinding, cause := .reset, timer := none, deferred := false }
      ∧ (interfaceReset s).seq = .executing r ∧ (interfaceReset s).engine = s.engine := by
  have hbatch := resetSequencer_batch s
  have hmember : s.batch.member = true := (h.member_of_executing hs).mpr (by rw [hp]; exact nofun)
  obtain ⟨hseq, hengine⟩ := resetSequencer_kept (.inl ⟨r, hs⟩)
  rw [interfaceReset_unfold, memberExecuting_of_executing hs, hmember, resetBatch_executing (by rw [hbatch]; exact hp),
    hbatch]
  generalize resetSequencer (resetHostState s) = q at *
  rw [settleReset_hand (s := q.withBatch (resetOpened true s.batch)) (hasCommand_executing (hseq.trans hs))]
  refine ⟨?_, hseq.trans hs, hengine⟩
  unfold resetOpened
  rw [← hmember]
  rfl

/-- R128: any other command is discarded, and the unwinding of an empty stack ends at once. -/
theorem interfaceReset_ended (hp : s.batch.phase = .opened) (he : isExecuting s.seq = false) (hu : s.batch.undo = []) :
    (interfaceReset s).batch
        = { s.batch with phase := .none, cause := .reset, timer := none, deferred := false, member := false }
      ∧ (interfaceReset s).seq = .idle ∧ (interfaceReset s).engine.cmdReq = false
      ∧ (interfaceReset s).engine.inFlight = s.engine.inFlight := by
  have hbatch := resetSequencer_batch s
  obtain ⟨hseq, hengine⟩ := resetSequencer_idle h (by rw [hp]; exact nofun) he
  rw [interfaceReset_unfold, memberExecuting_of_idle he, resetBatch_opened (by rw [hbatch]; exact hp), hbatch]
  generalize resetSequencer (resetHostState s) = q at *
  have hend : beginUnwind (q.withBatch (resetOpened false s.batch))
      = endUnwind (q.withBatch (resetOpened false s.batch)) := by
    unfold beginUnwind
    rw [show (q.withBatch (resetOpened false s.batch)).batch.undo = _ from hu]
  rw [hend, settleReset_idle]
  · exact ⟨rfl, rfl, (congrArg Engine.cmdReq hengine :), (congrArg Engine.inFlight hengine :)⟩
  · exact hasCommand_idle hseq
  · exact nofun

/-- R128: with records to undo the unwinder asks for the newest one's restore, which a FREE engine starts. -/
theorem interfaceReset_unwinds (hp : s.batch.phase = .opened) (he : isExecuting s.seq = false) {u : UndoRec}
    {us : List UndoRec} (hu : s.batch.undo = u :: us) :
    (interfaceReset s).batch
        = { s.batch with phase := .unwinding, cause := .reset, timer := none, deferred := false, member := false }
      ∧ (interfaceReset s).seq = .unwinding none
      ∧ (engineFree s = true → (interfaceReset s).engine.inFlight = some ⟨.restore u.prior, u.index⟩
        ∧ (interfaceReset s).engine.cmdReq = false)
      ∧ (engineFree s = false → (interfaceReset s).engine.inFlight = s.engine.inFlight
        ∧ (interfaceReset s).engine.cmdReq = true) := by
  have hbatch := resetSequencer_batch s
  obtain ⟨hseq, hengine⟩ := resetSequencer_idle h (by rw [hp]; exact nofun) he
  rw [interfaceReset_unfold, memberExecuting_of_idle he, resetBatch_opened (by rw [hbatch]; exact hp), hbatch]
  generalize resetSequencer (resetHostState s) = q at *
  have hfree : engineFree q = engineFree s := by unfold engineFree; rw [hengine]
  have hbegin : beginUnwind (q.withBatch (resetOpened false s.batch))
      = arrive (setCmdReq true (q.withBatch (resetOpened false s.batch))) := by
    unfold beginUnwind
    rw [show (q.withBatch (resetOpened false s.batch)).batch.undo = _ from hu]
  have hkept := arrive_requested_grantKept (q.withBatch (resetOpened false s.batch))
  have hidle : (arrive (setCmdReq true (q.withBatch (resetOpened false s.batch)))).seq = .idle :=
    (hkept.seq_eq (by rw [show (q.withBatch (resetOpened false s.batch)).seq = _ from hseq]; rfl)).trans hseq
  rw [hbegin, settleReset_unwinding (hasCommand_idle hidle) (by rw [hkept.batch]; rfl)]
  refine ⟨hkept.batch, rfl, fun hf => ?_, fun hb => ?_⟩
  · have hpost : q.engine.postReq = false := (congrArg Engine.postReq hengine).trans (h.requests.2.2 hf).1
    rw [arrive_free (setCmdReq true (q.withBatch (resetOpened false s.batch))) (hfree.trans hf), 
      arbitrate_command (s := setCmdReq true (q.withBatch (resetOpened false s.batch))) rfl (.inl hpost),
      grantCommand_restoring (s := setCmdReq true (q.withBatch (resetOpened false s.batch))) rfl hu]
    exact ⟨rfl, rfl⟩
  · rw [arrive_busy (setCmdReq true (q.withBatch (resetOpened false s.batch))) (hfree.trans hb)]
    exact ⟨(congrArg Engine.inFlight hengine :), rfl⟩

end

/-- R191: both ways of a reset do the same to the batch unit, the sequencer and the engine. -/
theorem exec_resetsInterface {c : Instr} {s : State} (h : CoreInv s) (hc : resetsInterface c s = true) :
    ∃ u t, exec c s = .next t ∧ CoreInv u ∧ (u.batch = s.batch ∧ u.seq = s.seq ∧ u.engine = s.engine)
      ∧ t.batch = (interfaceReset u).batch ∧ t.seq = (interfaceReset u).seq ∧ t.engine = (interfaceReset u).engine := by
  obtain ⟨-, ⟨-, hexec⟩ | ⟨-, hexec⟩⟩ := resetsInterface_cases hc
  · exact ⟨s, _, hexec, h, ⟨rfl, rfl, rfl⟩, rfl, rfl, rfl⟩
  · exact ⟨phaseToState s, _, hexec, (phaseToState_outside s).coreInv h, ⟨rfl, rfl, rfl⟩, rfl, rfl, rfl⟩

/-- Settles O19: one lemma for each batch state, and three for OPEN. -/
theorem interfaceResetUnwindsBatch : Obligations.InterfaceResetUnwindsBatch := by
  intro c s hinv hc
  obtain ⟨u, t, hexec, h, ⟨hbatch, hseq, hengine⟩, htbatch, htseq, htengine⟩ :=
    exec_resetsInterface ⟨hinv.sound, hinv.requests, hinv.rest⟩ hc
  have hfree : engineFree s = engineFree u := by unfold engineFree; rw [hengine]
  refine ⟨t, hexec, ?_⟩
  rw [htbatch, htseq, htengine, hfree, ← hbatch, ← hseq, ← hengine]
  exact ⟨interfaceReset_none h, interfaceReset_void h, interfaceReset_unwinding h,
    fun r hp hs => interfaceReset_executing h hp hs, interfaceReset_ended h,
    fun v vs hp he hu => interfaceReset_unwinds h hp he hu⟩

end Sys2Proof.Machine
end

section
/-! ### Arithmetic commands taken (R82, R97, R113, R114, R122) -/

namespace Sys2Proof.Machine

open Sys2Proof.Safety

/-! #### The take of a last record that may stay in hand -/

/-- R96: the state in which the last record is put through the checks. -/
def taken (s : State) : State := (s.withCmdQueue []).withOwed true

/-- R71–R73, R96–R99: the last record run: its body, and the sequencer passed on. -/
theorem exec_takeRow_run {op : Opcode} {o : Operands} {s : State} (h : LastRun op o s) :
    exec (takeRow op o) s = .next (handOn true (takeBody op o (taken s))) := by
  obtain ⟨⟨hcan, hlast⟩, hphase, hcond, hclass⟩ := h
  have hv : s.batch.phase ≠ .void := by rcases hphase with hx | hx <;> rw [hx] <;> exact nofun
  rw [exec_takeRow, takeStep_eq, if_pos hcan, beginTake_last hlast, take_eq]
  exact congrArg (fun t => Host.Outcome.next (handOn true t)) (checked_run (s := taken s) hv hcond hclass)

theorem takeBody_arith {op : Opcode} (h : isArith op = true) (o : Operands) : takeBody op o = arithBody op o := by
  cases op with
  | add | sub | move | negate | clear | compare => rfl
  | _ => cases h

/-! #### The request (R97, R113) -/

/-- R113: a command taken while a batch is open is a member of it. -/
def memberMarked (s : State) : State :=
  s.withBatch { s.batch with member := s.batch.member || s.batch.phase == .opened }

/-- R82, R113: with undo space, or without a batch, the engine is requested for a command that belongs to the batch
exactly while one is open. -/
theorem arithBody_requested {op : Opcode} {o : Operands} {s : State}
    (hphase : s.batch.phase = .none ∨ s.batch.phase = .opened)
    (hroom : s.batch.phase = .none ∨ undoShort s o.target = false) :
    arithBody op o s = requestEngine op o (memberMarked s) := by
  unfold arithBody memberMarked
  rcases hphase with hp | hp
  · have hsame : s.withBatch { s.batch with member := s.batch.member || s.batch.phase == .opened } = s := by
      rw [show (s.batch.phase == .opened) = false by rw [hp]; rfl, Bool.or_false]
      rfl
    rw [hsame, if_neg (by rw [hp]; exact nofun)]
  · have hshort : undoShort s o.target = false := hroom.resolve_left (by rw [hp]; exact nofun)
    rw [if_pos hp, hshort, show (s.batch.phase == .opened) = true by rw [hp]; rfl, Bool.or_true]
    rfl

theorem requestEngine_busy {s : State} (op : Opcode) (o : Operands) (hb : engineFree s = false) :
    requestEngine op o s
      = { s with seq := .waiting (recordOf op o), engine := { s.engine with cmdReq := true } } :=
  arrive_busy (setCmdReq true (s.withSeq (.waiting (recordOf op o)))) hb

/-- R23, R26, R27: at a FREE engine without a post request the command is granted on arrival. -/
theorem requestEngine_free {op : Opcode} {o : Operands} {s : State} {x : Operation} (hp : s.batch.phase ≠ .unwinding)
    (hf : engineFree s = true) (hpost : s.engine.postReq = false) (hx : arithOp op o s.entries = some x) :
    requestEngine op o s
      = { s with seq := .executing (recordOf op o), engine := ⟨some x, .command, false, false⟩ } := by
  have hgrant := grantCommand_executing (s := setCmdReq true (s.withSeq (.waiting (recordOf op o)))) hp rfl
    (opcodeOf_opcodeByte op) hx
  rw [show (setCmdReq true (s.withSeq (.waiting (recordOf op o)))).engine.postReq = false from hpost] at hgrant
  exact (arrive_free (setCmdReq true (s.withSeq (.waiting (recordOf op o)))) hf).trans
    ((arbitrate_command (s := setCmdReq true (s.withSeq (.waiting (recordOf op o)))) rfl (.inl hpost)).trans hgrant)

/-! #### The refusal UNDO_FULL (R114, R122) -/

theorem appendEvent_events {s t : State} (b : EventBody) (h : t.events = s.events) :
    (appendEvent b t).events = (appendEvent b s).events := by
  unfold appendEvent placeEvent
  rw [h]
  split <;> rfl

/-- R122: the record UNDO_FULL, and the void opened with detail 1. -/
def voidedState (op : Opcode) (o : Operands) (s : State) : State := openVoid 1 (complete op o .undoFull s)

/-- R122: what the refusal touches before the unwinder acts. -/
theorem voidedState_eq (op : Opcode) (o : Operands) (s : State) : ∃ w, voidedState op o s = { s with
    ring := s.ring ++ [⟨o.tag, opcodeByte op, .undoFull, s.flags⟩], owed := false
    events := (appendEvent ⟨.batchVoid, 0, 1⟩ s).events, window := w
    batch := { s.batch with phase := .unwinding, cause := .void, timer := none } } := by
  obtain ⟨q, f, h⟩ := appendEvent_eq ⟨.batchVoid, 0, 1⟩ (complete op o .undoFull s)
  have hevents : q = (appendEvent ⟨.batchVoid, 0, 1⟩ s).events :=
    (congrArg State.events h).symm.trans (appendEvent_events (s := s) (t := complete op o .undoFull s) _ rfl)
  refine ⟨{ s.window with irqFlag := f }, ?_⟩
  unfold voidedState openVoid
  rw [h, hevents, complete_eq]
  rfl

theorem arithBody_refused {op : Opcode} {o : Operands} {s : State} (hp : s.batch.phase = .opened)
    (hshort : undoShort s o.target = true) : arithBody op o s = beginUnwind (voidedState op o s) := by
  unfold arithBody
  rw [if_pos hp, if_pos hshort]
  rfl

/-- R114, R122: without undo space the batch is voided, and the unwinder asks for its first restore. -/
theorem exec_arith_unwinds {op : Opcode} {o : Operands} {s : State} (hop : isArith op = true) (h : LastRun op o s)
    (hp : s.batch.phase = .opened) (hshort : undoShort s o.target = true) {u : UndoRec} {us : List UndoRec}
    (hu : s.batch.undo = u :: us) : exec (takeRow op o) s
      = .next ((arrive (setCmdReq true (voidedState op o (taken s)))).withSeq (.unwinding none)) := by
  obtain ⟨w, hv⟩ := voidedState_eq op o (taken s)
  have hempty : hasCommand (voidedState op o (taken s)) = false := by
    rw [hv]
    exact (canTake_spec h.1.1).1
  have hkept := arrive_requested_grantKept (voidedState op o (taken s))
  have hbegin : beginUnwind (voidedState op o (taken s)) = arrive (setCmdReq true (voidedState op o (taken s))) := by
    unfold beginUnwind
    rw [show (voidedState op o (taken s)).batch.undo = u :: us by rw [hv]; exact hu]
  rw [exec_takeRow_run h, takeBody_arith hop, arithBody_refused (s := taken s) hp hshort, hbegin,
    handOn_unwinding_empty true _ (hkept.seq.hasCommand.trans hempty)]
  rw [hkept.batch, hv]

/-- R119, R122: on an empty stack the void is there at once. -/
theorem exec_arith_voids {op : Opcode} {o : Operands} {s : State} (hop : isArith op = true) (h : LastRun op o s)
    (hp : s.batch.phase = .opened) (hshort : undoShort s o.target = true) (hu : s.batch.undo = []) :
    exec (takeRow op o) s = .next (setQuiet ((endUnwind (voidedState op o (taken s))).withSeq .idle)) := by
  obtain ⟨w, hv⟩ := voidedState_eq op o (taken s)
  have hend : beginUnwind (voidedState op o (taken s)) = endUnwind (voidedState op o (taken s)) := by
    unfold beginUnwind
    rw [show (voidedState op o (taken s)).batch.undo = [] by rw [hv]; exact hu]
  rw [exec_takeRow_run h, takeBody_arith hop, arithBody_refused (s := taken s) hp hshort, hend, hv, handOn_idle]
  · rfl
  · exact (canTake_spec h.1.1).1
  · exact nofun

/-- R23: the unwinder's first request at a busy engine, and at a FREE one without a post request. -/
theorem voided_engine {op : Opcode} {o : Operands} {s : State} {u : UndoRec} {us : List UndoRec}
    (hu : s.batch.undo = u :: us) :
    (engineFree s = false → (arrive (setCmdReq true (voidedState op o s))).engine = { s.engine with cmdReq := true })
      ∧ (engineFree s = true → s.engine.postReq = false → (arrive (setCmdReq true (voidedState op o s))).engine
        = ⟨some ⟨.restore u.prior, u.index⟩, .command, false, false⟩) := by
  obtain ⟨w, hv⟩ := voidedState_eq op o s
  have hengine : (voidedState op o s).engine = s.engine := by rw [hv]
  have hbatch : (voidedState op o s).batch.phase = .unwinding ∧ (voidedState op o s).batch.undo = u :: us := by
    rw [hv]
    exact ⟨rfl, hu⟩
  generalize voidedState op o s = v at *
  have hfree : engineFree (setCmdReq true v) = engineFree s :=
    (congrArg (fun e : Engine => e.inFlight.isNone) hengine :)
  refine ⟨fun hb => ?_, fun hf hpost => ?_⟩
  · rw [arrive_busy _ (hfree.trans hb), ← hengine]
    rfl
  · have hpost' : (setCmdReq true v).engine.postReq = false := (congrArg Engine.postReq hengine :).trans hpost
    rw [arrive_free _ (hfree.trans hf), arbitrate_command rfl (.inl hpost'),
      grantCommand_restoring (s := setCmdReq true v) hbatch.1 hbatch.2, hpost']

/-- Settles O49: by undo space, the state of the engine, and the undo stack. -/
theorem arithmeticTakes : Obligations.ArithmeticTakes := by
  intro op o s hop h
  have hphase := h.2.1
  have hp : s.batch.phase ≠ .unwinding := by rcases hphase with hx | hx <;> rw [hx] <;> exact nofun
  refine ⟨fun hroom hb => ?_, fun x hroom hf hpost hx => ?_, fun u us hopen hshort hu => ?_,
    fun hopen hshort hu => ?_⟩
  · rw [exec_takeRow_run h, takeBody_arith hop, arithBody_requested (s := taken s) hphase hroom,
      requestEngine_busy (s := memberMarked (taken s)) op o hb]
    exact congrArg _ (handOn_hand true rfl)
  · have hop' : arithOp op o s.entries = some x := by
      rw [hx]
      cases op with
      | add | sub | move | negate | clear | compare => rfl
      | _ => cases hop
    rw [exec_takeRow_run h, takeBody_arith hop, arithBody_requested (s := taken s) hphase hroom,
      requestEngine_free (s := memberMarked (taken s)) hp hf hpost hop']
    exact congrArg _ (handOn_hand true rfl)
  · refine ⟨_, exec_arith_unwinds hop h hopen hshort hu, ?_⟩
    obtain ⟨w, hv⟩ := voidedState_eq op o (taken s)
    have hkept := arrive_requested_grantKept (voidedState op o (taken s))
    have hengine := voided_engine (op := op) (o := o) (s := taken s) hu
    have hevents := appendEvent_events (s := s) (t := taken s) ⟨.batchVoid, 0, 1⟩ rfl
    generalize arrive (setCmdReq true (voidedState op o (taken s))) = t at *
    rw [hv] at hkept
    exact ⟨hkept.batch, rfl, hkept.ring, hkept.events.trans hevents, hkept.entries, hkept.flags, hengine.1, hengine.2⟩
  · refine ⟨_, exec_arith_voids hop h hopen hshort hu, ?_⟩
    obtain ⟨w, hv⟩ := voidedState_eq op o (taken s)
    rw [hv]
    exact ⟨rfl, rfl, rfl, appendEvent_events (s := s) (t := taken s) ⟨.batchVoid, 0, 1⟩ rfl, rfl, rfl, rfl⟩

end Sys2Proof.Machine
end

section
/-! ### COMMIT (R88, R116) -/

namespace Sys2Proof.Machine

open Sys2Proof.Safety

/-! #### The scheduler's choice in the order of its search (R57) -/

theorem find_allChans {q : Fin 8 → Bool} {j : Fin 8} (h : q j = true) (hfirst : ∀ k, k < j → q k = false) :
    allChans.find? q = some j := by
  have hsplit : ∀ j : Fin 8, allChans = allChans.filter (· < j) ++ j :: allChans.filter (j < ·) := by decide
  refine List.find?_eq_some_iff_append.mpr ⟨h, _, _, hsplit j, fun k hk => ?_⟩
  rw [hfirst k (by simpa using (List.mem_filter.mp hk).2)]
  rfl

/-- R57: the first eligible channel from the pointer upward. -/
theorem chooseChan_first {s : State} {ch : Fin 8} (h : eligible s ch = true)
    (hfirst : ∀ k : Fin 8, k < ch - s.schedPtr → eligible s (s.schedPtr + k) = false) : chooseChan s = some ch := by
  have hreach : ∀ p ch : Fin 8, p + (ch - p) = ch := by decide
  have hfind : allChans.find? (eligible s ∘ fun k => s.schedPtr + k) = some (ch - s.schedPtr) :=
    find_allChans ((congrArg (eligible s) (hreach s.schedPtr ch)).trans h) hfirst
  unfold chooseChan searchOrder
  rw [List.find?_map, hfind]
  exact congrArg some (hreach s.schedPtr ch)

/-! #### Eligibility when nothing is held (R55, R56) -/

theorem eligible_of_unheld {s : State} (h : ∀ i : Fin 32, s.entries[i].held = false) (ch : Fin 8) :
    eligible s ch = decide (0 < s.chans[ch].units) := by
  unfold eligible
  rw [chainHeld_of_unheld h]
  exact Bool.and_true _

theorem anyEligible_of_unheld {s : State} (h : ∀ i : Fin 32, s.entries[i].held = false) :
    anyEligible s = true ↔ ∃ ch : Fin 8, 0 < s.chans[ch].units := by
  unfold anyEligible
  rw [List.any_eq_true]
  constructor
  · rintro ⟨ch, -, he⟩
    rw [eligible_of_unheld h] at he
    exact ⟨ch, of_decide_eq_true he⟩
  · rintro ⟨ch, hu⟩
    exact ⟨ch, mem_allChans ch, by rw [eligible_of_unheld h]; exact decide_eq_true hu⟩

/-! #### The batch closed -/

/-- R116: the entries with an undo record, from the oldest to the newest. -/
def writtenEntries (s : State) : List (Fin 32) := s.batch.undo.reverse.map fun u => u.index

/-- R116: the store with the thresholds of what was written evaluated and every marker cleared. -/
def closedStore (s : State) : Vector Entry 32 := clearHeld (evaluateAll s.entries (writtenEntries s)).1

/-- R116: the batch unit when the batch has ended. -/
def closedBatch (b : Batch) : Batch := { b with phase := .none, undo := [], timer := none }

theorem closedStore_get (s : State) (i : Fin 32) : (closedStore s)[i] = { s.entries[i] with
    held := false, side := (evaluateAll s.entries (writtenEntries s)).1[i].side } := by
  unfold closedStore
  rw [clearHeld_get, evaluateAll_entry]

theorem closedStore_unheld (s : State) (i : Fin 32) : (closedStore s)[i].held = false := by
  rw [closedStore_get]

/-- R116: the events of the evaluation appended, the store and the batch closed. -/
theorem closeBatch_eq (s : State) : closeBatch s
    = ((appendAll (evaluateAll s.entries (writtenEntries s)).2 s).withEntries (closedStore s)).withBatch
      (closedBatch s.batch) := by
  have hcomm := appendAll_comm (g := fun t => t.withEntries (evaluateAll s.entries (writtenEntries s)).1)
    (evs := (evaluateAll s.entries (writtenEntries s)).2) (s := s)
  obtain ⟨q, w, h⟩ := appendAll_eq (evaluateAll s.entries (writtenEntries s)).2 s
  unfold closeBatch
  dsimp only
  rw [appendThreads_single]
  rw [show (s.batch.undo.reverse.map fun u => u.index) = writtenEntries s from rfl, hcomm, h]
  rfl

/-- R99, R116: the COMMIT as the last record: the batch closed, the released channels offered to the engine, and the
sequencer IDLE. -/
theorem exec_batchCommit {o : Operands} {s : State} (h : LastRun .batchCommit o s) :
    exec (.batchCommit o) s = .next (completed .batchCommit o .done (schedule (closeBatch (taken s)))) := by
  have hkept := arrive_grantKept (refreshPostReq (closeBatch (taken s)))
  obtain ⟨-, hseq, hqueue, -⟩ := closeBatch_frame (taken s)
  have hempty : hasCommand (schedule (closeBatch (taken s))) = false :=
    hkept.seq.hasCommand.trans ((hasCommand_of_seq (s := s) hseq).trans (canTake_spec h.1.1).1)
  have hphase : (schedule (closeBatch (taken s))).batch.phase ≠ .unwinding := by
    rw [show (schedule (closeBatch (taken s))).batch = _ from hkept.batch.trans (closeBatch_batch (taken s))]
    exact nofun
  refine (exec_takeRow_run h).trans (congrArg _ ?_)
  exact handOn_complete (s := schedule (closeBatch (taken s))) (hkept.cmdQueue.trans hqueue) hempty hphase _ o .done

/-! #### The channels released (R55–R57) -/

/-- R116: the batch of a COMMIT closed, in the terms of the state in which it is taken. -/
theorem closeBatch_taken (s : State) : ∃ q w, closeBatch (taken s)
      = ((((taken s).withEvents q).withWindow w).withEntries (closedStore s)).withBatch (closedBatch s.batch)
    ∧ appendAll (evaluateAll s.entries (writtenEntries s)).2 s = (s.withEvents q).withWindow w := by
  have hcomm := appendAll_comm (g := taken) (evs := (evaluateAll s.entries (writtenEntries s)).2) (s := s)
  obtain ⟨q, w, h⟩ := appendAll_eq (evaluateAll s.entries (writtenEntries s)).2 s
  rw [h] at hcomm
  refine ⟨q, w, (closeBatch_eq (taken s)).trans ?_, h⟩
  change ((appendAll (evaluateAll s.entries (writtenEntries s)).2 (taken s)).withEntries _).withBatch _ = _
  rw [hcomm]
  rfl

/-- R56: with no unit pending anywhere the request is withdrawn. -/
theorem schedule_noUnits {s : State} (hc : engineFree s = true → s.engine.cmdReq = false)
    (hnone : ∀ ch : Fin 8, s.chans[ch].units = 0) : schedule s = setPostReq false s := by
  have hany : anyEligible s = false := anyEligible_eq_false fun ch => eligible_of_no_units (hnone ch)
  cases hf : engineFree s with
  | false => rw [schedule_busy hf, refreshPostReq, hany]
  | true => exact schedule_none (hc hf) hany

/-- R56: a released channel's request waits at a busy engine. -/
theorem schedule_requested {s : State} (hheld : ∀ i : Fin 32, s.entries[i].held = false) (hb : engineFree s = false)
    {ch : Fin 8} (hu : 0 < s.chans[ch].units) : schedule s = setPostReq true s := by
  rw [schedule_busy hb, refreshPostReq, (anyEligible_of_unheld hheld).mpr ⟨ch, hu⟩]

/-- R57: at a FREE engine the first channel with units from the pointer upward is posted. -/
theorem schedule_released {s : State} (hheld : ∀ i : Fin 32, s.entries[i].held = false) (hf : engineFree s = true)
    (hc : s.engine.cmdReq = false) {ch : Fin 8} (hu : 0 < s.chans[ch].units)
    (hfirst : ∀ k : Fin 8, k < ch - s.schedPtr → s.chans[s.schedPtr + k].units = 0) :
    schedule s = startPost ch (refreshPostReq s) := by
  refine schedule_chosen hf hc (chooseChan_first ?_ fun k hk => eligible_of_no_units (hfirst k hk))
  rw [eligible_of_unheld hheld]
  exact decide_eq_true hu

/-- Settles O46: the closed batch exactly, and the scheduler on a store in which nothing is held. -/
theorem batchCommits : Obligations.BatchCommits := by
  intro o s h hcmd
  obtain ⟨q, w, hclosed, hevents⟩ := closeBatch_taken s
  refine ⟨_, exec_batchCommit h, ?_⟩
  generalize closeBatch (taken s) = c at hclosed ⊢
  have hentries : c.entries = closedStore s := by rw [hclosed]; rfl
  have hengine : c.engine = s.engine := by rw [hclosed]; rfl
  have hchans : c.chans = s.chans := by rw [hclosed]; rfl
  have hptr : c.schedPtr = s.schedPtr := by rw [hclosed]; rfl
  have hfree : engineFree c = engineFree s := by unfold engineFree; rw [hengine]
  have hheld : ∀ i : Fin 32, c.entries[i].held = false := fun i => by rw [hentries, closedStore_unheld]
  refine ⟨fun i => ?_, ?_, fun hnone => ?_, fun ch hu => ⟨fun hb => ?_, fun hf hfirst => ?_⟩⟩
  · have hsame : (schedule c).entries = closedStore s := (arrive_grantKept (refreshPostReq c)).entries.trans hentries
    exact (congrArg (fun es : Vector Entry 32 => es[i]) hsame).trans (closedStore_get s i)
  · rw [show (s.batch.undo.reverse.map fun u => u.index) = writtenEntries s from rfl, hevents]
    obtain ⟨e, cs, p, b, hscheduled⟩ : ∃ e cs p b,
        schedule c = { c with engine := e, chans := cs, schedPtr := p, seq := b } := ⟨_, _, _, _, schedule_eq c⟩
    rw [hscheduled, hclosed]
    rfl
  · rw [schedule_noUnits (s := c) (by rw [hfree, hengine]; exact hcmd) (by rw [hchans]; exact hnone), ← hengine]
    exact ⟨rfl, hchans, hptr⟩
  · rw [schedule_requested hheld (hfree.trans hb) (by rw [hchans]; exact hu), ← hengine]
    exact ⟨rfl, hchans, hptr⟩
  · rw [schedule_released (s := c) hheld (hfree.trans hf) (by rw [hengine]; exact hcmd hf) (by rw [hchans]; exact hu)
      (by subst hclosed; exact hfirst)]
    have hcmd' : c.engine.cmdReq = false := by rw [hengine]; exact hcmd hf
    have hstarted := startPost_engine ch (refreshPostReq c)
    have hany := anyEligible_of_unheld (s := startPost ch (refreshPostReq c)) hheld
    rw [← hchans]
    refine ⟨rfl, rfl, ?_, hany⟩
    change (startPost ch (refreshPostReq c)).engine = _
    rw [hstarted, show (refreshPostReq c).engine.cmdReq = false from hcmd']
    rfl

end Sys2Proof.Machine
end

section
/-! ### The scheduler's choice, and the configuration commands of the channels (R57, R85, R86) -/

namespace Sys2Proof.Machine

open Sys2Proof.Safety

set_option Elab.async false

/-! #### The first eligible channel (R57) -/

/-- The channels are listed upward, so those before the one found do not satisfy the test. -/
theorem eq_false_of_find_allChans {q : Fin 8 → Bool} {j k : Fin 8} (h : allChans.find? q = some j) (hk : k < j) :
    q k = false := by
  have hupward : allChans.Pairwise (· < ·) := by decide
  obtain ⟨-, before, behind, hsplit, hno⟩ := List.find?_eq_some_iff_append.mp h
  have hmem : k ∈ before ++ j :: behind := hsplit ▸ mem_allChans k
  rw [hsplit, List.pairwise_append, List.pairwise_cons] at hupward
  obtain ⟨-, ⟨hbehind, -⟩, -⟩ := hupward
  rcases List.mem_append.mp hmem with hx | hx
  · simpa using hno k hx
  · rcases List.mem_cons.mp hx with rfl | hx
    · exact absurd hk (lt_irrefl _)
    · exact absurd (hbehind k hx) (lt_asymm hk)

/-- R57: no channel between the pointer and the one chosen is eligible. -/
theorem not_eligible_before_choice {s : State} {ch k : Fin 8} (h : chooseChan s = some ch) (hk : k < ch - s.schedPtr) :
    eligible s (s.schedPtr + k) = false := by
  unfold chooseChan searchOrder at h
  rw [List.find?_map] at h
  obtain ⟨j, hj, rfl⟩ := Option.map_eq_some_iff.mp h
  rw [add_sub_cancel_left] at hk
  exact eq_false_of_find_allChans (q := eligible s ∘ fun k => s.schedPtr + k) hj hk

/-- Settles O32: the search finds the first that satisfies the test, and reaches every channel. -/
theorem roundRobinChoice : Obligations.RoundRobinChoice := by
  intro s
  refine ⟨fun ch h => ⟨eligible_of_chooseChan h, fun k hk => not_eligible_before_choice h hk⟩, fun h ch => ?_,
    fun h => ?_⟩
  · exact Bool.eq_false_iff.mpr fun he =>
      Bool.noConfusion ((anyEligible_of_eligible he).symm.trans (anyEligible_of_chooseChan_none h))
  · cases hc : chooseChan s with
    | none => rfl
    | some ch => exact Bool.noConfusion ((h ch).symm.trans (eligible_of_chooseChan hc))

/-! #### CHANCONFIG and CHANCLEAR (R52–R54, R85, R86) -/

theorem chanOf_eq {b : Byte} {ch : Fin 8} (h : ch.val = b.toNat) : chanOf b = ch :=
  Fin.ext ((congrArg (· % 8) h).symm.trans (Nat.mod_eq_of_lt ch.isLt))

/-- R52: a record is refused while units are pending and target, weight or direction would change. -/
theorem chanBusy_iff {c : Channel} {n : ChanRecord} : chanBusy c n = true ↔
    0 < c.units ∧ (n.target ≠ c.record.target ∨ n.weight ≠ c.record.weight ∨ n.dir ≠ c.record.dir) := by
  simp only [chanBusy, Bool.and_eq_true, decide_eq_true_eq, Bool.not_eq_true', Bool.and_eq_false_iff, beq_eq_false_iff_ne,
    or_assoc]

/-- R85: the record of a CHANCONFIG, in the terms of its bytes. -/
theorem chanRecord_eq (o : Operands) : o.chanRecord = ⟨o.b.getLsbD 0,
    if o.b.toNat / 2 % 4 = 1 then .rising else if o.b.toNat / 2 % 4 = 2 then .falling else .both,
    o.i0.toNat % 16, o.i1.toNat + 1,
    o.i2.toNat / 16 * 1000 + o.i2.toNat % 16 * 100 + o.i3.toNat / 16 * 10 + o.i3.toNat % 16,
    if o.b.getLsbD 3 then .subtract else .add, accOf o.i4⟩ := by
  have hedge : o.chanRecord.edge
      = if o.b.toNat / 2 % 4 = 1 then .rising else if o.b.toNat / 2 % 4 = 2 then .falling else .both := by
    unfold Operands.chanRecord Operands.edgeCode
    dsimp only
    split
    · rw [if_pos ‹_›]
    · rename_i h
      rw [h]
      rfl
    · rw [if_neg ‹_›, if_neg ‹_›]
  have hweight : o.chanRecord.weight
      = o.i2.toNat / 16 * 1000 + o.i2.toNat % 16 * 100 + o.i3.toNat / 16 * 10 + o.i3.toNat % 16 := by
    simp only [Operands.chanRecord, Operands.weight, packedValue, List.foldl_cons, List.foldl_nil, pairValue, hiNibble,
      loNibble]
    omega
  rw [← hedge, ← hweight]
  rfl

theorem exec_chanconfig_refused {o : Operands} {s : State} (h : LastRun .chanconfig o s)
    (hb : chanBusy s.chans[chanOf o.a] o.chanRecord = true) :
    exec (.chanconfig o) s = .next (completed .chanconfig o .channelBusy s) :=
  (exec_lastRun h (u := taken s) (if_pos hb) rfl rfl rfl).trans rfl

/-- R53: the record replaced. -/
theorem exec_chanconfig_applied {o : Operands} {s : State} (h : LastRun .chanconfig o s)
    (hb : chanBusy s.chans[chanOf o.a] o.chanRecord = false) :
    exec (.chanconfig o) s = .next (completed .chanconfig o .done { s with
      chans := setChan s.chans (chanOf o.a) (applyRecord s.chans[chanOf o.a] o.chanRecord) }) :=
  (exec_lastRun h (u := (taken s).withChans (setChan s.chans (chanOf o.a)
    (applyRecord s.chans[chanOf o.a] o.chanRecord))) (if_neg (Bool.eq_false_iff.mp hb)) rfl rfl rfl).trans rfl

/-- R54, R56: the channel cleared, and the scheduler's request brought up to date. -/
theorem exec_chanclear {o : Operands} {s : State} (h : LastRun .chanclear o s) :
    exec (.chanclear o) s = .next (completed .chanclear o .done (refreshPostReq { s with
      chans := setChan s.chans (chanOf o.a) (clearChan s.chans[chanOf o.a]) })) :=
  (exec_lastRun h (u := refreshPostReq ((taken s).withChans (setChan s.chans (chanOf o.a)
    (clearChan s.chans[chanOf o.a])))) rfl rfl rfl rfl).trans rfl

/-- Settles O44: CHANCONFIG by whether the channel is busy, CHANCLEAR without a condition. -/
theorem channelSettings : Obligations.ChannelSettings := by
  refine ⟨fun o s h ch n hch hn => ?_, fun o s h ch hch => ?_⟩
  · rw [← chanRecord_eq] at hn
    obtain rfl := chanOf_eq hch
    subst hn
    refine ⟨fun hu hdiff => exec_chanconfig_refused h (chanBusy_iff.mpr ⟨hu, hdiff⟩), fun hok => ?_⟩
    refine exec_chanconfig_applied h (Bool.eq_false_iff.mpr fun hb => ?_)
    obtain ⟨hu, hdiff⟩ := chanBusy_iff.mp hb
    rcases hok with h0 | ⟨htarget, hweight, hdir⟩
    · exact Nat.ne_of_gt hu h0
    · rcases hdiff with hx | hx | hx
      · exact hx htarget
      · exact hx hweight
      · exact hx hdir
  · obtain rfl := chanOf_eq hch
    exact exec_chanclear h

end Sys2Proof.Machine
end

section
/-! ### The events of a post, two series in a free order (R60, R61, R136, R144) -/

namespace Sys2Proof.Machine

open Sys2Proof.Safety

set_option Elab.async false

/-! #### Two series run in a free order (log 6) -/

/-- The list is made of the two others, each in its own order. -/
inductive Interleaved {α : Type} : List α → List α → List α → Prop where
  | nil : Interleaved [] [] []
  | left {x : α} {a b l : List α} : Interleaved a b l → Interleaved (x :: a) b (x :: l)
  | right {x : α} {a b l : List α} : Interleaved a b l → Interleaved a (x :: b) (x :: l)

theorem interleaved_left {α : Type} : ∀ a : List α, Interleaved a [] a
  | [] => .nil
  | _ :: a => .left (interleaved_left a)

theorem interleaved_right {α : Type} : ∀ b : List α, Interleaved [] b b
  | [] => .nil
  | _ :: b => .right (interleaved_right b)

theorem Interleaved.length {α : Type} {a b l : List α} (h : Interleaved a b l) : l.length = a.length + b.length := by
  induction h with
  | nil => rfl
  | left _ ih => simp only [List.length_cons, ih]; omega
  | right _ ih => simp only [List.length_cons, ih]; omega

/-- A test that holds of all of one series and of nothing of the other picks the first out of the whole. -/
theorem Interleaved.filter_left {α : Type} {p : α → Bool} {a b l : List α} (h : Interleaved a b l)
    (ha : ∀ x ∈ a, p x = true) (hb : ∀ x ∈ b, p x = false) : l.filter p = a := by
  induction h with
  | nil => rfl
  | left _ ih =>
    obtain ⟨hx, ha⟩ := List.forall_mem_cons.mp ha
    rw [List.filter_cons_of_pos hx, ih ha hb]
  | right _ ih =>
    obtain ⟨hx, hb⟩ := List.forall_mem_cons.mp hb
    rw [List.filter_cons_of_neg (Bool.eq_false_iff.mp hx), ih ha hb]

theorem Interleaved.swap {α : Type} {a b l : List α} (h : Interleaved a b l) : Interleaved b a l := by
  induction h with
  | nil => exact .nil
  | left _ ih => exact .right ih
  | right _ ih => exact .left ih

/-- While both series have actions left, the free value says which goes on. -/
theorem interleave_two {α : Type} (run : α → State → State) (n : Nat) (x y : α) (a b : List α) (s : State) :
    interleave run (n + 1) [x :: a, y :: b] s
      = if Config.freePick s.freeCount % 2 = 0
        then interleave run n [a, y :: b] (run x (s.withFreeCount (s.freeCount + 1)))
        else interleave run n [x :: a, b] (run y (s.withFreeCount (s.freeCount + 1))) := by
  rcases Nat.mod_two_eq_zero_or_one (Config.freePick s.freeCount) with hk | hk <;>
    simp [interleave, hk]

/-- R144: two series of events run in a free order are some interleaving of them appended, whatever the free choices. -/
theorem interleave_pair : ∀ (n : Nat) (a b : List EventBody) (s : State), a.length + b.length < n →
    ∃ l m, Interleaved a b l ∧ interleave appendEvent n [a, b] s = (appendAll l s).withFreeCount m
  | 0, _, _, _, h => nomatch h
  | _ + 1, [], [], s, _ => ⟨[], s.freeCount, .nil, rfl⟩
  | _ + 1, x :: a, [], s, _ => ⟨x :: a, (appendAll (x :: a) s).freeCount, interleaved_left _, rfl⟩
  | _ + 1, [], y :: b, s, _ => ⟨y :: b, (appendAll (y :: b) s).freeCount, interleaved_right _, rfl⟩
  | n + 1, x :: a, y :: b, s, h => by
    have hcount : ∀ l e, appendAll l (appendEvent e (s.withFreeCount (s.freeCount + 1)))
        = (appendAll (e :: l) s).withFreeCount (s.freeCount + 1) :=
      fun l e => appendAll_comm (g := fun t => t.withFreeCount (s.freeCount + 1)) (evs := e :: l) (s := s)
    simp only [List.length_cons] at h
    rw [interleave_two]
    split
    · obtain ⟨l, m, hl, he⟩ := interleave_pair n a (y :: b) (appendEvent x (s.withFreeCount (s.freeCount + 1)))
        (by simp only [List.length_cons]; omega)
      exact ⟨x :: l, m, .left hl, by rw [he, hcount]; rfl⟩
    · obtain ⟨l, m, hl, he⟩ := interleave_pair n (x :: a) b (appendEvent y (s.withFreeCount (s.freeCount + 1)))
        (by simp only [List.length_cons]; omega)
      exact ⟨y :: l, m, .right hl, by rw [he, hcount]; rfl⟩

theorem appendThreads_pair (a b : List EventBody) (s : State) :
    ∃ l m, Interleaved a b l ∧ appendThreads [a, b] s = (appendAll l s).withFreeCount m :=
  interleave_pair _ a b s (by simp [actionCount])

/-! #### Events appended while the queue has room (R142) -/

theorem appendAll_room : ∀ (l : List EventBody) (s : State), s.events.records.length + l.length ≤ 24 →
    ∃ new, (appendAll l s).events.records = s.events.records ++ new ∧ (new.map fun e => e.body) = l
      ∧ (appendAll l s).events.lost = s.events.lost
  | [], s, _ => ⟨[], (List.append_nil _).symm, rfl, rfl⟩
  | b :: l, s, h => by
    rw [List.length_cons] at h
    rcases appendEvent_cases b s with ⟨-, he⟩ | ⟨hfull, -⟩
    · obtain ⟨new, hrecords, hbodies, hlost⟩ := appendAll_room l (placeEvent b s) (by
        change (s.events.records ++ [_]).length + l.length ≤ 24
        rw [List.length_append, List.length_singleton]
        omega)
      rw [← he] at hrecords hlost
      refine ⟨⟨s.events.nextSeq, b⟩ :: new, hrecords.trans ?_, congrArg (b :: ·) hbodies, hlost.trans ?_⟩ <;> rw [he]
      · exact List.append_assoc _ [_] new
      · rfl
    · omega

/-! #### The two series of a post -/

/-- R60, R61: the events of the post path are WRAP and SATURATED. -/
theorem postEvents_kind {es : Vector Entry 32} {ws : List Written} {b : EventBody} (h : b ∈ postEvents es ws) :
    b.kind ≠ .threshold := by
  obtain ⟨w, -, hw⟩ := List.mem_filterMap.mp h
  unfold postEvent at hw
  split at hw
  · split at hw <;> cases hw
    exact nofun
  · cases hw
    exact nofun
  · cases hw

/-- R60: which events the post path has does not depend on the sides of the thresholds. -/
theorem postEvents_evaluateAll (es : Vector Entry 32) (is : List (Fin 32)) (ws : List Written) :
    postEvents (evaluateAll es is).1 ws = postEvents es ws := by
  have hattr : ∀ i : Fin 32, (evaluateAll es is).1[i].attr = es[i].attr := fun i => by rw [evaluateAll_entry]
  unfold postEvents
  congr 1
  funext w
  unfold postEvent
  rw [hattr]

theorem evaluate_kind {es : Vector Entry 32} {i : Fin 32} {b : EventBody} (h : (evaluate es i).2 = some b) :
    b.kind = .threshold := by
  unfold evaluate at h
  dsimp only at h
  split at h
  · cases h
  · split at h
    · cases h
    · split at h <;> cases h
      rfl

/-- R134: the events of the threshold monitor are THRESHOLD events. -/
theorem evaluateAll_kind : ∀ {is : List (Fin 32)} {es : Vector Entry 32} {b : EventBody}, b ∈ (evaluateAll es is).2 →
    b.kind = .threshold
  | i :: is, es, b, h => by
    rcases List.mem_append.mp h with hx | hx
    · exact evaluate_kind (Option.mem_toList.mp hx)
    · exact evaluateAll_kind hx

/-- Settles O34: the free order leaves an interleaving of the two series, and their kinds tell them apart. -/
theorem postEventsKeepTheirOrder : Obligations.PostEventsKeepTheirOrder := by
  intro s ch w d g hx ws es path monitor hroom
  obtain ⟨l, m, hl, he⟩ := appendThreads_pair path monitor (s.withEntries (committedStore ⟨.post ch w d, g⟩ s.entries))
  have hposted : postedState ⟨.post ch w d, g⟩ s = freeEngine (appendThreads [path, monitor]
      (s.withEntries (committedStore ⟨.post ch w d, g⟩ s.entries))) := by
    unfold postedState committedStore
    rw [postEvents_evaluateAll]
  obtain ⟨new, hrecords, hbodies, hlost⟩ := appendAll_room l
    (s.withEntries (committedStore ⟨.post ch w d, g⟩ s.entries)) (by
      rw [hl.length, ← Nat.add_assoc]
      exact hroom)
  have hevents : (postDone ⟨.post ch w d, g⟩ s).events
      = (appendAll l (s.withEntries (committedStore ⟨.post ch w d, g⟩ s.entries))).events := by
    rw [postDone_eq, arbitrate_eq, hposted, he]
    rfl
  have hpath : ∀ b ∈ path, b.kind ≠ .threshold := fun b hb => postEvents_kind hb
  have hmonitor : ∀ b ∈ monitor, b.kind = .threshold := fun b hb => evaluateAll_kind hb
  refine ⟨_, new, exec_postCompletion hx, by rw [hevents]; exact hrecords, ?_, ?_, by rw [hevents]; exact hlost⟩ <;>
    rw [hbodies]
  · exact hl.filter_left (fun b hb => bne_iff_ne.mpr (hpath b hb)) fun b hb => by rw [hmonitor b hb]; rfl
  · exact hl.swap.filter_left (fun b hb => beq_iff_eq.mpr (hmonitor b hb)) fun b hb => beq_eq_false_iff_ne.mpr (hpath b hb)

end Sys2Proof.Machine
end

section
/-! ### The interval expiry (R51, R155, R165) -/

namespace Sys2Proof.Machine

open Sys2Proof.Safety

set_option Elab.async false

/-! #### The steps of an expiry -/

theorem counting_iff {t : IntervalTimer} : counting t = true ↔ t.run = true ∧ t.length ≠ 0 ∧ t.count ≠ 0 := by
  simp only [counting, Bool.and_eq_true, bne_iff_ne, ne_eq, and_assoc]

/-- R51, R155: the count reloaded and the rates latched. -/
def reloadedState (s : State) : State :=
  (s.withInterval { s.interval with count := s.interval.length }).withChans (s.chans.map latchRate)

theorem latchedChans_get (cs : Vector Channel 8) (ch : Fin 8) : (cs.map latchRate)[ch] = latchRate cs[ch] := by
  rw [Fin.getElem_fin, Vector.getElem_map]
  rfl

/-- R155: the report link once the periodic job has been copied, or found the report queue full. -/
def copiedLink (s : State) : Link :=
  match s.link.template with
  | some j => if s.link.jobs.length < 8 then (appendJob { j with periodic := true } s).link else s.link
  | none => s.link

/-- R155: the event of a job that found the report queue full. -/
def skippedEvents (s : State) : List EventBody :=
  match s.link.template with
  | some j => if s.link.jobs.length < 8 then [] else [⟨.reportSkipped, j.tag, 0⟩]
  | none => []

theorem reportFull_eq_false {s : State} (h : s.link.jobs.length < 8) : reportFull s = false :=
  decide_eq_false (Nat.not_le.mpr h)

theorem reportFull_eq_true {s : State} (h : ¬ s.link.jobs.length < 8) : reportFull s = true :=
  decide_eq_true (Nat.le_of_not_lt h)

theorem withLink_appendEvent (b : EventBody) (s : State) : (appendEvent b s).withLink s.link = appendEvent b s := by
  obtain ⟨q, f, h⟩ := appendEvent_eq b s
  rw [h]
  rfl

/-- R155 step 3: the periodic job reaches the link, or leaves its event. -/
theorem periodicJob_eq (s : State) : periodicJob s = (appendAll (skippedEvents s) s).withLink (copiedLink s) := by
  unfold periodicJob skippedEvents copiedLink
  cases s.link.template with
  | none => rfl
  | some j =>
    dsimp only
    by_cases h : s.link.jobs.length < 8
    · rw [reportFull_eq_false h, if_pos h, if_pos h, if_neg Bool.false_ne_true, appendJob_eq]
      rfl
    · rw [reportFull_eq_true h, if_neg h, if_neg h, if_pos rfl]
      exact (withLink_appendEvent _ s).symm

/-- R155 steps 3 and 4: what they do to the link, and the events they append. -/
theorem intervalEvent_periodicJob (s : State) :
    intervalEvent (periodicJob s) = (appendAll (expiryEvents s) s).withLink (copiedLink s) := by
  have hevent : ∀ t, intervalEvent t = appendAll (if t.interval.evEnable then [⟨.interval, 0, 0⟩] else []) t := by
    intro t
    unfold intervalEvent
    split <;> rfl
  have henable : (periodicJob s).interval = s.interval := by
    obtain ⟨q, w, h⟩ := appendAll_eq (skippedEvents s) s
    rw [periodicJob_eq, h]
    rfl
  rw [hevent, henable, periodicJob_eq, appendAll_comm (g := fun t => t.withLink (copiedLink s))]
  exact congrArg (fun t : State => t.withLink (copiedLink s)) List.foldl_append.symm

/-- R155: an expiry of a timer that is counting: the events appended, the count, the rates and the link. -/
theorem exec_intervalExpiry {s : State} (h : counting s.interval = true) : ∃ q w,
    appendAll (expiryEvents s) s = (s.withEvents q).withWindow w
      ∧ exec .intervalExpiry s
        = .next ((((reloadedState s).withEvents q).withWindow w).withLink (copiedLink (reloadedState s))) := by
  obtain ⟨q, w, he⟩ := appendAll_eq (expiryEvents s) s
  refine ⟨q, w, he, congrArg _ ((if_pos h).trans ((intervalEvent_periodicJob (reloadedState s)).trans ?_))⟩
  have hcomm := appendAll_comm (g := fun t => (t.withInterval { s.interval with count := s.interval.length }).withChans
    (s.chans.map latchRate)) (evs := expiryEvents s) (s := s)
  rw [he] at hcomm
  exact congrArg (fun t : State => t.withLink (copiedLink (reloadedState s))) hcomm

/-! #### The periodic job at the link (R161, R165) -/

theorem copiedLink_frame (s : State) :
    copiedLink s = { s.link with jobs := (copiedLink s).jobs, state := (copiedLink s).state } := by
  unfold copiedLink
  split
  · split
    · rw [appendJob_eq]
    · rfl
  · rfl

theorem copiedLink_copied {s : State} {j : Job} (hj : s.link.template = some j) (hroom : s.link.jobs.length < 8) :
    copiedLink s = (appendJob { j with periodic := true } s).link := by
  unfold copiedLink
  rw [hj]
  exact if_pos hroom

theorem copiedLink_jobs (s : State) : (copiedLink s).jobs = match s.link.template with
    | some j => if s.link.jobs.length < 8 then s.link.jobs ++ [{ j with periodic := true }] else s.link.jobs
    | none => s.link.jobs := by
  unfold copiedLink
  cases s.link.template with
  | none => rfl
  | some j =>
    dsimp only
    split
    · rw [appendJob_eq]
    · rfl

/-- R165: only a job copied to an IDLE link starts a frame. -/
theorem copiedLink_state {s : State}
    (h : s.link.state ≠ .idle ∨ s.link.template = none ∨ 8 ≤ s.link.jobs.length) :
    (copiedLink s).state = s.link.state := by
  unfold copiedLink
  split
  · rename_i j hj
    split
    · rename_i hroom
      have hbusy : s.link.state ≠ .idle := by
        rcases h with h | h | h
        · exact h
        · cases hj.symm.trans h
        · exact absurd hroom (Nat.not_lt.mpr h)
      rcases tryStart_cases 1 (s.withLink { s.link with jobs := s.link.jobs ++ [{ j with periodic := true }] }) with
        ⟨_, _, hidle, -, -⟩ | ⟨-, he⟩
      · exact absurd hidle hbusy
      · have hstate := congrArg (fun t : State => t.link.state) he
        exact hstate
    · rfl
  · rfl

/-- Settles O25: the link by whether the job is copied, and the other fields by the frame of the events appended. -/
theorem intervalExpiryActs : Obligations.IntervalExpiryActs := by
  intro s
  refine ⟨fun h => congrArg _ (if_neg fun hc => h (counting_iff.mp hc)), fun hrun hlen hcount => ?_⟩
  obtain ⟨q, w, hevents, hexec⟩ := exec_intervalExpiry (counting_iff.mpr ⟨hrun, hlen, hcount⟩)
  refine ⟨_, hexec, rfl, latchedChans_get s.chans, copiedLink_jobs (reloadedState s),
    copiedLink_state (s := reloadedState s), fun j k ks hidle hj hroom hjobs => ?_, ?_⟩
  · rw [State.withLink_link, copiedLink_copied (s := reloadedState s) hj hroom]
    exact tryStart_started 1 _ k ks hidle hjobs
  · rw [hevents]
    exact congrArg (((reloadedState s).withEvents q).withWindow w).withLink (copiedLink_frame (reloadedState s))

end Sys2Proof.Machine
end

section
/-! ### Samples (R45–R48, R148, R149, R169) -/

namespace Sys2Proof.Machine

open Sys2Proof.Safety

set_option Elab.async false

/-! #### A channel at a sample -/

theorem sampleChan_disabled {raw : Bool} {c : Channel} (hi : c.input = .disabled) : sampleChan raw c = (c, false) := by
  unfold sampleChan
  rw [hi]

theorem sampleChan_arming {raw : Bool} {c : Channel} (hi : c.input = .arming) :
    sampleChan raw c = ({ c with level := raw, qcount := 0, input := .armed }, false) := by
  unfold sampleChan
  rw [hi]

theorem sampleChan_steady {raw : Bool} {c : Channel} (hi : c.input = .armed) (hl : raw = c.level) :
    sampleChan raw c = ({ c with qcount := 0 }, false) := by
  unfold sampleChan
  rw [hi]
  exact if_pos hl

theorem sampleChan_qualifying {raw : Bool} {c : Channel} (hi : c.input = .armed) (hl : raw ≠ c.level)
    (hq : c.qcount < c.record.qualify) : sampleChan raw c = ({ c with qcount := c.qcount + 1 }, false) := by
  unfold sampleChan
  rw [hi]
  exact (if_neg hl).trans (if_pos hq)

/-- R46, R47: a qualified change of the level, which is a counted edge or not. -/
theorem sampleChan_edge {raw : Bool} {c : Channel} (hi : c.input = .armed) (hl : raw ≠ c.level)
    (hq : c.record.qualify ≤ c.qcount) : sampleChan raw c = if countedEdge c.record.edge raw
      then countEdge { c with level := raw, qcount := 0 } else ({ c with level := raw, qcount := 0 }, false) := by
  unfold sampleChan
  rw [hi]
  exact (if_neg hl).trans (if_neg (Nat.not_lt.mpr hq))

theorem countedEdge_eq_false_iff (e : EdgeSel) (raw : Bool) :
    countedEdge e raw = false ↔ (e = .rising ∧ raw = false) ∨ (e = .falling ∧ raw = true) := by
  cases e <;> simp [countedEdge]

/-- R47, R48: a qualified change, with the divider count that it leaves. -/
theorem sampleChan_qualified {raw : Bool} {c : Channel} (hi : c.input = .armed) (hl : raw ≠ c.level)
    (hq : c.record.qualify ≤ c.qcount) : (sampleChan raw c).1 = { c with
      level := raw, qcount := 0
      divCount := if (c.record.edge = .rising ∧ raw = false) ∨ (c.record.edge = .falling ∧ raw = true) then c.divCount
        else if c.divCount ≤ 1 then c.record.divider else c.divCount - 1 } := by
  rw [sampleChan_edge hi hl hq]
  cases he : countedEdge c.record.edge raw with
  | false => rw [if_pos ((countedEdge_eq_false_iff _ _).mp he)]; rfl
  | true =>
    have hcounted := mt (countedEdge_eq_false_iff c.record.edge raw).mpr (by rw [he]; exact Bool.noConfusion)
    rw [if_neg hcounted, if_pos rfl]
    unfold countEdge
    dsimp only
    split <;> rfl

/-- R48: a unit arrives at an ARMED channel, whose divider count has been reloaded. -/
theorem sampleChan_unit {raw : Bool} {c : Channel} (h : (sampleChan raw c).2 = true) :
    (sampleChan raw c).1.input = .armed ∧ (sampleChan raw c).1.divCount = (sampleChan raw c).1.record.divider := by
  cases hi : c.input with
  | disabled => rw [sampleChan_disabled hi] at h; cases h
  | arming => rw [sampleChan_arming hi] at h; cases h
  | armed =>
    by_cases hl : raw = c.level
    · rw [sampleChan_steady hi hl] at h; cases h
    · by_cases hq : c.qcount < c.record.qualify
      · rw [sampleChan_qualifying hi hl hq] at h; cases h
      · rw [sampleChan_edge hi hl (Nat.le_of_not_lt hq)] at h ⊢
        split at h
        · unfold countEdge at h ⊢
          split at h
          · rename_i hedge hlast
            rw [if_pos hedge, if_pos hlast]
            exact ⟨hi, rfl⟩
          · cases h
        · cases h

/-! #### What the events of a sample leave of the channels' inputs -/

/-- R45–R48: the part of a channel that a sample reads and writes. -/
def Channel.inputs (c : Channel) : Channel :=
  { c with units := 0, dropped := 0, overrun := false, rate := 0, rateLatch := 0 }

theorem inputs_countUnit (c : Channel) : (countUnit c).inputs = c.inputs := by
  unfold countUnit
  split <;> rfl

/-- The command queue, the divider and the inputs of the channels are the same. -/
structure InputsKept (s t : State) : Prop where
  queue : t.cmdQueue = s.cmdQueue
  timebase : t.timebase = s.timebase
  inputs : ∀ ch : Fin 8, t.chans[ch].inputs = s.chans[ch].inputs

namespace InputsKept

theorem of_eq {s t : State} (queue : t.cmdQueue = s.cmdQueue := by rfl) (timebase : t.timebase = s.timebase := by rfl)
    (chans : t.chans = s.chans := by rfl) : InputsKept s t :=
  ⟨queue, timebase, fun ch => by rw [chans]⟩

theorem trans {s t u : State} (h : InputsKept s t) (h' : InputsKept t u) : InputsKept s u :=
  ⟨h'.queue.trans h.queue, h'.timebase.trans h.timebase, fun ch => (h'.inputs ch).trans (h.inputs ch)⟩

theorem of_outside {s t : State} (h : Outside s t) (timebase : t.timebase = s.timebase) : InputsKept s t :=
  .of_eq h.cmdQueue timebase h.chans

/-- One channel replaced by another with the same inputs. -/
theorem of_setChan {s t : State} {ch : Fin 8} {c : Channel} (hc : c.inputs = s.chans[ch].inputs)
    (chans : t.chans = setChan s.chans ch c := by rfl) (queue : t.cmdQueue = s.cmdQueue := by rfl)
    (timebase : t.timebase = s.timebase := by rfl) : InputsKept s t := by
  refine ⟨queue, timebase, fun k => ?_⟩
  rw [chans]
  by_cases hk : k = ch
  · rw [hk, setChan_get_self, hc]
  · rw [setChan_get_ne _ _ hk]

end InputsKept

theorem appendEvent_inputsKept (b : EventBody) (s : State) : InputsKept s (appendEvent b s) := by
  obtain ⟨q, f, h⟩ := appendEvent_eq b s
  rw [h]
  exact .of_eq

theorem grantCommand_inputsKept (s : State) : InputsKept s (grantCommand s) := by
  rw [grantCommand_eq]
  exact .of_eq

theorem grantPost_inputsKept (s : State) : InputsKept s (grantPost s) := by
  unfold grantPost
  split
  · rename_i ch _
    exact .of_setChan (ch := ch) (c := { s.chans[ch] with units := s.chans[ch].units - 1 }) rfl
  · dsimp only
    split
    · exact .trans .of_eq (grantCommand_inputsKept _)
    · exact .of_eq

theorem arrive_inputsKept (s : State) : InputsKept s (arrive s) := by
  unfold arrive arbitrate
  split
  · split
    · exact .of_eq
    · exact grantPost_inputsKept s
    · exact grantCommand_inputsKept s
    · split
      · exact grantCommand_inputsKept s
      · exact grantPost_inputsKept s
  · exact .of_eq

theorem unitArrives_inputsKept (ch : Fin 8) (s : State) : InputsKept s (unitArrives ch s) := by
  have hcount : InputsKept s (s.withChans (setChan s.chans ch (countUnit s.chans[ch]))) :=
    .of_setChan (inputs_countUnit _)
  have hschedule : ∀ t, InputsKept t (schedule t) := fun t => .trans .of_eq (arrive_inputsKept (refreshPostReq t))
  unfold unitArrives
  dsimp only
  split
  · exact (hcount.trans (appendEvent_inputsKept _ _)).trans (hschedule _)
  · exact hcount.trans (hschedule _)

theorem tryStart_timebase (n : Nat) (s : State) : (tryStart n s).timebase = s.timebase := by
  rw [tryStart_eq]

theorem dropHead_timebase (k : EventKind) (d : Job → Byte) (l : LinkState) (s : State) :
    (dropHead k d l s).timebase = s.timebase := by
  obtain ⟨-, -, htime, -⟩ := dropHead_blocks k d l s
  exact htime

theorem frameEnd_inputsKept (s : State) : InputsKept s (frameEnd s) := by
  refine .of_outside (frameEnd_outside s) ?_
  unfold frameEnd
  split
  · exact (tryStart_timebase _ _).trans (dropHead_timebase _ _ _ s)
  · rfl

theorem linkTimeout_inputsKept (s : State) : InputsKept s (linkTimeout s) := by
  refine .of_outside (linkTimeout_outside s) ?_
  unfold linkTimeout
  split
  · exact (tryStart_timebase _ _).trans (dropHead_timebase _ _ _ s)
  · rfl

theorem timeoutLower_inputsKept (s : State) : InputsKept s (timeoutLower s) := by
  refine .of_outside (timeoutLower_outside s) ?_
  unfold timeoutLower
  split
  · split
    · split
      · rfl
      · rw [setFrame_eq]
    · rfl
  · rfl

theorem intervalEvent_inputsKept (s : State) : InputsKept s (intervalEvent s) := by
  unfold intervalEvent
  split
  · exact appendEvent_inputsKept _ s
  · exact .of_eq

theorem intervalReload_inputsKept (s : State) : InputsKept s (intervalReload s) := by
  have hlatch : InputsKept s (reloadedState s) :=
    ⟨rfl, rfl, fun ch => (congrArg Channel.inputs (latchedChans_get s.chans ch) :)⟩
  obtain ⟨q, w, h⟩ := appendAll_eq (skippedEvents (reloadedState s)) (reloadedState s)
  refine hlatch.trans ?_
  rw [show intervalReload s = periodicJob (reloadedState s) from rfl, periodicJob_eq, h]
  exact .of_eq

/-- R99: with an empty command queue the sequencer takes nothing. -/
theorem handOn_inputsKept (e : Bool) {s : State} (hq : s.cmdQueue = []) : InputsKept s (handOn e s) := by
  unfold handOn
  split
  · exact .of_eq
  · refine passOnFor_keeps (InputsKept s) (fun _ h _ => h.trans .of_eq) (fun e t h _ _ => ?_)
      (fun _ h _ _ _ => h.trans .of_eq) (fun r q t h _ ht _ => ?_) _ e s .of_eq
    · obtain ⟨f, hf⟩ := enterIdle_eq e t
      rw [hf]
      exact h.trans .of_eq
    · cases ht.symm.trans (h.queue.trans hq)

theorem batchExpiry_inputsKept {s : State} (hq : s.cmdQueue = []) : InputsKept s (batchExpiry s) := by
  have hopen : InputsKept s (openVoid 2 s) := (appendEvent_inputsKept _ s).trans .of_eq
  have hbegin : InputsKept s (beginUnwind (openVoid 2 s)) := by
    rcases beginUnwind_cases (openVoid 2 s) with ⟨-, h⟩ | ⟨-, h⟩ <;> rw [h]
    · exact hopen.trans .of_eq
    · exact (hopen.trans .of_eq).trans (arrive_inputsKept _)
  unfold batchExpiry
  split
  · exact .of_eq
  · rw [resume_eq, if_pos (openVoid_phase 2 s)]
    exact hbegin.trans (handOn_inputsKept true (hbegin.queue.trans hq))

theorem runTimed_inputsKept (e : TimedEvent) {s : State} (hq : s.cmdQueue = []) : InputsKept s (runTimed e s) := by
  cases e with
  | unit ch => exact unitArrives_inputsKept ch s
  | frameEnd => exact frameEnd_inputsKept s
  | batchExpiry => exact batchExpiry_inputsKept hq
  | intervalReload => exact intervalReload_inputsKept s
  | intervalEvent => exact intervalEvent_inputsKept s
  | linkTimeout => exact linkTimeout_inputsKept s

theorem runThreads_inputsKept (threads : List (List TimedEvent)) {s : State} (hq : s.cmdQueue = []) :
    InputsKept s (runThreads runTimed threads s) :=
  runThreads_keeps runTimed (InputsKept s) (fun e _ h => h.trans (runTimed_inputsKept e (h.queue.trans hq)))
    (fun _ _ h => h.trans .of_eq) threads s .of_eq

theorem deliverTick_inputsKept (others : List (List TimedEvent)) {s : State} (hq : s.cmdQueue = []) :
    InputsKept s (deliverTick others s) := by
  have hlower : InputsKept s (lowerCounts s) := .trans .of_eq (timeoutLower_inputsKept _)
  exact hlower.trans (runThreads_inputsKept _ (hlower.queue.trans hq))

/-- R148: whatever else a sample brings, it leaves each channel's inputs and the divider as the sample finds them. -/
theorem execSample_inputsKept {levels : Byte} {s t : State} (hq : s.cmdQueue = []) (h : execSample levels s = .next t) :
    InputsKept (sampledState levels s) t := by
  have hqueue : (sampledState levels s).cmdQueue = [] := (sampledState_unitsKept levels s).cmdQueue.trans hq
  rw [execSample_eq] at h
  cases h
  split
  · exact deliverTick_inputsKept _ hqueue
  · exact runThreads_inputsKept _ hqueue

/-! #### The divider and the DRIVEN clock -/

theorem dividerStep_within {t : Timebase} (h : (dividerStep t).2 = false) :
    (dividerStep t).1 = ⟨t.period + 1, t.tick⟩ := by
  unfold dividerStep at h ⊢
  split at h
  · cases h
  · rw [if_neg ‹_›]

theorem dividerStep_ends {t : Timebase} (h : (dividerStep t).2 = true) : (dividerStep t).1 = endTick t := by
  unfold dividerStep at h ⊢
  split at h
  · rw [if_pos ‹_›]
  · cases h

theorem drivenDue_iff {s : State} : drivenDue s = true ↔ ∃ f, s.link.state = .sending f ∧ f.followed = false ∧ f.wait ≤ 1
    ∧ f.lclkHigh = false ∧ 8 * f.bytes.length ≤ f.cells := by
  have hends : ∀ f : Frame, (!f.followed && drivenEnds f) = true ↔ f.followed = false ∧ f.wait ≤ 1
      ∧ f.lclkHigh = false ∧ 8 * f.bytes.length ≤ f.cells := fun f => by
    simp only [drivenEnds, Bool.and_eq_true, Bool.not_eq_true', decide_eq_true_eq, and_assoc]
    rfl
  unfold drivenDue
  split
  · rename_i f hs
    rw [hends]
    exact ⟨fun h => ⟨f, hs, h⟩, fun ⟨g, hg, h⟩ => by cases hs.symm.trans hg; exact h⟩
  · rename_i hno
    exact ⟨nofun, fun ⟨f, hf, _⟩ => absurd hf (hno f)⟩

/-- R169: a REFCLK period in which no frame ends moves a DRIVEN frame on. -/
theorem drivenAdvance_eq {s : State} (h : drivenDue s = false) : drivenAdvance s = s.withLink (advancedLink s) := by
  unfold drivenDue at h
  unfold drivenAdvance advancedLink setFrame
  cases hs : s.link.state with
  | sending f =>
    rw [hs] at h
    dsimp only at h ⊢
    cases hf : f.followed with
    | true => rfl
    | false =>
      rw [hf] at h
      rw [show drivenEnds f = false from h]
      rfl
  | _ => rfl

theorem drivenAdvance_due {s : State} (h : drivenDue s = true) : drivenAdvance s = s := by
  unfold drivenDue at h
  unfold drivenAdvance
  split at h
  · exact if_pos (Bool.or_eq_true_iff.mpr (.inr (Bool.and_eq_true_iff.mp h).2))
  · cases h

/-- R169: the edges of a DRIVEN frame's clock. -/
theorem drivenStep_edges (f : Frame) : (1 < f.wait → drivenStep f = { f with wait := f.wait - 1 })
    ∧ (f.wait ≤ 1 → f.lclkHigh = true →
      drivenStep f = { f with lclkHigh := false, cells := f.cells + 1, wait := halfPeriods f.rate })
    ∧ (f.wait ≤ 1 → f.lclkHigh = false → drivenStep f = { f with lclkHigh := true, wait := halfPeriods f.rate }) := by
  rw [← halfCell_eq]
  refine ⟨fun h => if_pos h, fun h hc => ?_, fun h hc => ?_⟩
  · exact (if_neg (Nat.not_lt.mpr h)).trans (if_pos hc)
  · exact (if_neg (Nat.not_lt.mpr h)).trans (if_neg (by rw [hc]; exact Bool.noConfusion))

/-! #### Samples that bring at most one event -/

/-- R148, R169: the state in which the events of a sample are run, when no DRIVEN frame ends in it. -/
theorem sampledState_advanced (levels : Byte) {s : State} (h : drivenDue s = false) : sampledState levels s = { s with
    chans := sampledChans levels s, timebase := (dividerStep s.timebase).1, link := advancedLink s } := by
  unfold sampledState
  rw [drivenAdvance_eq h]
  rfl

theorem sampledState_due (levels : Byte) {s : State} (h : drivenDue s = true) : sampledState levels s = { s with
    chans := sampledChans levels s, timebase := (dividerStep s.timebase).1 } := by
  unfold sampledState
  rw [drivenAdvance_due h]
  rfl

theorem exec_sample_within (levels : Byte) {s : State} (h : (dividerStep s.timebase).2 = false) :
    exec (.sample levels) s = .next (runThreads runTimed (sampleThreads levels s) (sampledState levels s)) := by
  rw [show exec (.sample levels) s = execSample levels s from rfl, execSample_eq, h]
  rfl

theorem exec_sample_tick (levels : Byte) {s : State} (h : (dividerStep s.timebase).2 = true) :
    exec (.sample levels) s = .next (deliverTick (sampleThreads levels s) (sampledState levels s)) := by
  rw [show exec (.sample levels) s = execSample levels s from rfl, execSample_eq, h]
  rfl

theorem sampleThreads_eq {levels : Byte} {s : State} {units : List (Fin 8)} (h : (sampleAll levels s.chans).2 = units) :
    sampleThreads levels s
      = (if drivenDue s then [.frameEnd] else []) :: units.map fun ch => [TimedEvent.unit ch] := by
  subst h
  rfl

/-- A thread without actions is as if it were not there. -/
theorem runThreads_nil_cons {α : Type} (run : α → State → State) (threads : List (List α)) (s : State) :
    runThreads run ([] :: threads) s = runThreads run threads s := by
  simp [runThreads, interleave, actionCount]

/-- R148: a sample that brings no unit, no tick and no frame's end. -/
theorem exec_sample_quiet {levels : Byte} {s : State} (hu : (sampleAll levels s.chans).2 = [])
    (ht : (dividerStep s.timebase).2 = false) (hd : drivenDue s = false) :
    exec (.sample levels) s = .next { s with
      chans := sampledChans levels s, timebase := ⟨s.timebase.period + 1, s.timebase.tick⟩, link := advancedLink s } := by
  rw [exec_sample_within levels ht, sampleThreads_eq hu, hd, sampledState_advanced levels hd, dividerStep_within ht]
  exact congrArg _ (runThreads_idle _ _ _ (by simp))

theorem setChan_self (cs : Vector Channel 8) (ch : Fin 8) : setChan cs ch cs[ch] = cs := Vector.set_getElem_self _

theorem exec_unitArrival_reloaded {ch : Fin 8} {s : State} (ha : s.chans[ch].input = .armed)
    (hd : s.chans[ch].divCount = s.chans[ch].record.divider) :
    exec (.unitArrival ch) s = .next (unitArrives ch s) := by
  refine congrArg _ ((if_pos ha).trans ?_)
  rw [← hd, setChan_self]
  rfl

theorem sampledChans_get (levels : Byte) (s : State) (ch : Fin 8) :
    (sampledChans levels s)[ch] = (sampleChan (levels.getLsbD ch.val) s.chans[ch]).1 := sampleAll_get levels s.chans ch

/-- R49, R148: a sample that brings one unit is otherwise its UNIT_ARRIVAL. -/
theorem exec_sample_unit {levels : Byte} {s : State} {ch : Fin 8} (hu : (sampleAll levels s.chans).2 = [ch])
    (ht : (dividerStep s.timebase).2 = false) (hd : drivenDue s = false) :
    exec (.sample levels) s = exec (.unitArrival ch) { s with
      chans := sampledChans levels s, timebase := ⟨s.timebase.period + 1, s.timebase.tick⟩, link := advancedLink s } := by
  have hmem : ch ∈ (sampleAll levels s.chans).2 := by rw [hu]; exact List.mem_singleton_self ch
  obtain ⟨harmed, hdiv⟩ := sampleChan_unit (List.mem_filter.mp hmem).2
  rw [← sampledChans_get] at harmed hdiv
  rw [exec_sample_within levels ht, sampleThreads_eq hu, hd, sampledState_advanced levels hd, dividerStep_within ht]
  exact (congrArg _ (runThreads_one runTimed _ [.unit ch] _ rfl)).trans (exec_unitArrival_reloaded harmed hdiv).symm

/-- R148, R150: a sample that ends a tick is otherwise MILLISECOND_TICK. -/
theorem exec_sample_endTick {levels : Byte} {s : State} (hu : (sampleAll levels s.chans).2 = [])
    (ht : (dividerStep s.timebase).2 = true) (hd : drivenDue s = false) :
    exec (.sample levels) s = exec .millisecondTick { s with chans := sampledChans levels s, link := advancedLink s } := by
  rw [exec_sample_tick levels ht, sampleThreads_eq hu, hd, sampledState_advanced levels hd, dividerStep_ends ht]
  exact congrArg _ (runThreads_nil_cons runTimed _ _)

/-- R148, R171: a sample that brings a DRIVEN frame's end is otherwise FRAME_COMPLETION. -/
theorem exec_sample_frameEnd {levels : Byte} {s : State} (hu : (sampleAll levels s.chans).2 = [])
    (ht : (dividerStep s.timebase).2 = false) (hd : drivenDue s = true) :
    exec (.sample levels) s = exec .frameCompletion { s with
      chans := sampledChans levels s, timebase := ⟨s.timebase.period + 1, s.timebase.tick⟩ } := by
  rw [exec_sample_within levels ht, sampleThreads_eq hu, hd, sampledState_due levels hd, dividerStep_within ht]
  exact congrArg _ (runThreads_one runTimed _ [.frameEnd] _ rfl)

/-! #### The channels and the divider after a sample -/

theorem inputs_fields {c d : Channel} (h : c.inputs = d.inputs) :
    c.record = d.record ∧ c.input = d.input ∧ c.level = d.level ∧ c.qcount = d.qcount ∧ c.divCount = d.divCount :=
  ⟨(congrArg Channel.record h :), (congrArg Channel.input h :), (congrArg Channel.level h :),
    (congrArg Channel.qcount h :), (congrArg Channel.divCount h :)⟩

/-- R149: the divider after a REFCLK period. -/
theorem dividerStep_eq (t : Timebase) : (dividerStep t).1
    = if (t.tick + 1) * 4096 / 125 ≤ t.period + 1 then
        (if t.tick < 124 then ⟨(t.tick + 1) * 4096 / 125, t.tick + 1⟩ else ⟨0, 0⟩)
      else ⟨t.period + 1, t.tick⟩ := by
  unfold dividerStep tickEnd
  split <;> rfl

/-- Settles O21: a channel by its input state and its level, the events of the instant by what they keep, and a sample that
brings at most one event by the run of that event. -/
theorem sampleQualifies : Obligations.SampleQualifies := by
  refine ⟨fun levels s hq => ⟨_, execSample_eq levels s, fun ch => ?_, ?_⟩, fun levels s => exec_sample_quiet,
    drivenStep_edges, fun s => drivenDue_iff, fun levels s ch => exec_sample_unit, fun levels s => exec_sample_endTick,
    fun levels s => exec_sample_frameEnd⟩
  · have hkept := (execSample_inputsKept hq (execSample_eq levels s)).inputs ch
    have hsampled : (sampledState levels s).chans[ch] = (sampleChan (levels.getLsbD ch.val) s.chans[ch]).1 :=
      sampleAll_get levels s.chans ch
    rw [hsampled] at hkept
    refine ⟨(inputs_fields hkept).1.trans (sampleChan_units _ _).2, fun hi => ?_, fun hi => ?_, fun hi hl => ?_,
      fun hi hl hc => ?_, fun hi hl hc => ?_⟩
    · rw [sampleChan_disabled hi] at hkept
      obtain ⟨-, hinput, hrest⟩ := inputs_fields hkept
      exact ⟨hinput.trans hi, hrest⟩
    · rw [sampleChan_arming hi] at hkept
      exact (inputs_fields hkept).2
    · rw [sampleChan_steady hi hl] at hkept
      obtain ⟨-, hinput, hrest⟩ := inputs_fields hkept
      exact ⟨hinput.trans hi, hrest⟩
    · rw [sampleChan_qualifying hi hl hc] at hkept
      obtain ⟨-, hinput, hrest⟩ := inputs_fields hkept
      exact ⟨hinput.trans hi, hrest⟩
    · rw [sampleChan_qualified hi hl hc] at hkept
      obtain ⟨-, hinput, hrest⟩ := inputs_fields hkept
      exact ⟨hinput.trans hi, hrest⟩
  · exact (execSample_inputsKept hq (execSample_eq levels s)).timebase.trans (dividerStep_eq s.timebase)

end Sys2Proof.Machine
end

section
/-! ### The command queue and the completion ring stay in their bounds (R69, R93, R96, R102) -/

namespace Sys2Proof.Machine

open Sys2Proof.Safety

set_option Elab.async false

/-! #### What keeps the bounds -/

/-- The command queue keeps its bound and its form, and the ring its bound and its place for a completion owed. -/
structure PipeKept (s t : State) : Prop where
  queue : QueueSound s.cmdQueue → QueueSound t.cmdQueue
  ring : RingSound s → RingSound t

theorem ringSound_of_eq {s t : State} (h : RingSound s) (ring : t.ring = s.ring) (owed : t.owed = s.owed)
    (hand : hasCommand t = hasCommand s) : RingSound t := by
  unfold RingSound
  rw [ring, owed, hand]
  exact h

theorem queueSound_tail {q : List CmdRec} (h : QueueSound q) : QueueSound q.tail := by
  obtain ⟨hlen, hwell⟩ := h
  exact ⟨by rw [List.length_tail]; omega, fun r hr => hwell r (List.mem_of_mem_tail hr)⟩

theorem queueSound_nil : QueueSound [] := ⟨Nat.zero_le _, List.forall_mem_nil _⟩

namespace PipeKept

theorem trans {s t u : State} (h : PipeKept s t) (h' : PipeKept t u) : PipeKept s u :=
  ⟨h'.queue ∘ h.queue, h'.ring ∘ h.ring⟩

/-- What changes neither the queue, the ring nor what the sequencer holds. -/
theorem of_eq {s t : State} (cmdQueue : t.cmdQueue = s.cmdQueue := by rfl) (ring : t.ring = s.ring := by rfl)
    (owed : t.owed = s.owed := by rfl) (hand : hasCommand t = hasCommand s := by rfl) : PipeKept s t :=
  ⟨by rw [cmdQueue]; exact id, fun h => ringSound_of_eq h ring owed hand⟩

theorem of_same {s t : State} (h : SameCore s t) : PipeKept s t :=
  .of_eq h.cmdQueue h.ring h.owed (hasCommand_of_seq h.seq)

theorem of_grant {s t : State} (h : GrantKept s t) : PipeKept s t := .of_eq h.cmdQueue h.ring h.owed h.seq.hasCommand

/-- A command that has left the hand needs no place in the ring. -/
theorem of_empty {s t : State} (hand : hasCommand t = false) (cmdQueue : t.cmdQueue = s.cmdQueue := by rfl)
    (ring : t.ring = s.ring := by rfl) : PipeKept s t :=
  ⟨by rw [cmdQueue]; exact id, fun h => ringSound_of_empty hand (by rw [ring]; exact h.1)⟩

/-- R191: both emptied. -/
theorem of_nil {s t : State} (cmdQueue : t.cmdQueue = []) (ring : t.ring = []) : PipeKept s t := by
  refine ⟨fun _ => cmdQueue ▸ queueSound_nil, fun _ => ?_⟩
  unfold RingSound
  rw [ring]
  exact ⟨Nat.zero_le _, fun _ _ => Nat.zero_lt_succ _⟩

end PipeKept

theorem arrive_pipeKept (s : State) : PipeKept s (arrive s) := .of_grant (arrive_grantKept s)

theorem arbitrate_pipeKept (s : State) : PipeKept s (arbitrate s) := .of_grant (arbitrate_grantKept s)

/-- R118, R119: the unwinder's request or the end of the unwinding. -/
theorem beginUnwind_pipeKept (s : State) : PipeKept s (beginUnwind s) := by
  rcases beginUnwind_cases s with ⟨-, h⟩ | ⟨-, h⟩ <;> rw [h]
  · exact .of_eq
  · exact .trans .of_eq (arrive_pipeKept (setCmdReq true s))

theorem openVoid_pipeKept (d : Byte) (s : State) : PipeKept s (openVoid d s) :=
  (PipeKept.of_same (appendEvent_sameCore _ s)).trans .of_eq

/-! #### The completion record of a take (R76, R102) -/

/-- A take leaves the ring alone, or appends the one completion record that was owed. -/
def RecordsOnce (s t : State) : Prop := t.ring = s.ring ∨ (t.owed = false ∧ ∃ c, t.ring = s.ring ++ [c])

theorem complete_recordsOnce {s u : State} (op : Opcode) (o : Operands) (st : Status) (h : u.ring = s.ring) :
    RecordsOnce s (complete op o st u) := .inr ⟨rfl, _, congrArg (· ++ [_]) h⟩

/-- What leaves the ring and what is owed alone. -/
theorem RecordsOnce.trans {s t u : State} (h : RecordsOnce s t) (ring : u.ring = t.ring) (owed : u.owed = t.owed) :
    RecordsOnce s u := by
  unfold RecordsOnce
  rw [ring, owed]
  exact h

/-- R96: at a take the ring has a place for the record. -/
theorem RecordsOnce.ringSound {s t : State} (h : RecordsOnce s t) (hroom : s.ring.length < 16) : RingSound t := by
  rcases h with h | ⟨howed, c, h⟩
  · exact ⟨by rw [h]; exact Nat.le_of_lt hroom, fun _ _ => by rw [h]; exact hroom⟩
  · refine ⟨?_, fun _ ho => Bool.noConfusion (howed.symm.trans ho)⟩
    rw [h, List.length_append]
    exact hroom

theorem beginUnwind_ring (s : State) : (beginUnwind s).ring = s.ring ∧ (beginUnwind s).owed = s.owed := by
  rw [beginUnwind_eq]
  exact ⟨rfl, rfl⟩

theorem refuseUndoFull_recordsOnce (op : Opcode) (o : Operands) (s : State) : RecordsOnce s (refuseUndoFull op o s) := by
  obtain ⟨hring, howed⟩ := beginUnwind_ring (openVoid 1 (complete op o .undoFull s))
  have hvoid := appendEvent_sameCore ⟨.batchVoid, 0, 1⟩ (complete op o .undoFull s)
  exact (complete_recordsOnce op o .undoFull rfl).trans (hring.trans hvoid.ring) (howed.trans hvoid.owed)

theorem requestEngine_ring (op : Opcode) (o : Operands) (s : State) : (requestEngine op o s).ring = s.ring :=
  (arrive_grantKept _).ring

theorem arithBody_recordsOnce (op : Opcode) (o : Operands) (s : State) : RecordsOnce s (arithBody op o s) := by
  unfold arithBody
  split
  · split
    · exact refuseUndoFull_recordsOnce op o s
    · exact .inl (requestEngine_ring op o _)
  · exact .inl (requestEngine_ring op o s)

/-- R82–R92: steps 4 and 5 of a take. -/
theorem takeBody_recordsOnce (op : Opcode) (o : Operands) (s : State) : RecordsOnce s (takeBody op o s) := by
  cases op with
  | mark => exact complete_recordsOnce _ o _ rfl
  | add | sub | move | negate | clear | compare => exact arithBody_recordsOnce _ o s
  | setattr =>
    unfold takeBody setattrBody
    dsimp only
    split <;> exact complete_recordsOnce _ o _ rfl
  | setthresh =>
    unfold takeBody setthreshBody
    dsimp only
    split
    · exact complete_recordsOnce _ o _ rfl
    · split <;> exact complete_recordsOnce _ o _ rfl
  | chanconfig =>
    unfold takeBody chanconfigBody
    dsimp only
    split <;> exact complete_recordsOnce _ o _ rfl
  | chanclear => exact complete_recordsOnce _ o _ rfl
  | batchOpen => exact complete_recordsOnce _ o _ rfl
  | batchCommit =>
    have hring : (commitBatch s).ring = (closeBatch s).ring := (arrive_grantKept (refreshPostReq (closeBatch s))).ring
    exact complete_recordsOnce _ o _ (hring.trans (closeBatch_frame s).2.2.2)
  | batchAbort =>
    unfold takeBody batchAbortBody
    dsimp only
    split
    · exact complete_recordsOnce _ o _ rfl
    · exact .inl (beginUnwind_ring _).1
  | report =>
    unfold takeBody reportBody
    dsimp only
    split
    · exact complete_recordsOnce _ o _ rfl
    · exact complete_recordsOnce _ o _ (appendJob_sameCore _ s).1.ring
  | reportPeriodic => exact complete_recordsOnce _ o _ rfl

theorem take_recordsOnce (op : Opcode) (o : Operands) (s : State) : RecordsOnce s (take op o s) := by
  rw [take_eq]
  rcases checked_cases op o (takeBody op o) s with
    ⟨-, -, heq⟩ | ⟨-, -, heq⟩ | ⟨-, -, heq⟩ | ⟨st, -, -, -, heq⟩ | ⟨-, -, -, heq⟩ <;> rw [heq]
  · exact complete_recordsOnce op o _ rfl
  · exact complete_recordsOnce op o _ rfl
  · exact complete_recordsOnce op o _ rfl
  · exact complete_recordsOnce op o _ rfl
  · exact takeBody_recordsOnce op o s

/-! #### The sequencer (R96, R98, R99) -/

theorem ring_room {s : State} (h : ringFull s = false) : s.ring.length < 16 := Nat.lt_of_not_le (of_decide_eq_false h)

/-- R96: a take from a ring that is not full. -/
theorem take_pipeKept (op : Opcode) (o : Operands) {s u : State} (hroom : ringFull s = false)
    (cmdQueue : u.cmdQueue = s.cmdQueue.tail) (ring : u.ring = s.ring) : PipeKept s (take op o u) := by
  refine ⟨fun h => ?_, fun _ => (take_recordsOnce op o u).ringSound (by rw [ring]; exact ring_room hroom)⟩
  rw [take_cmdQueue, cmdQueue]
  exact queueSound_tail h

theorem takeRecord_pipeKept (r : CmdRec) {s : State} (hroom : ringFull s = false) :
    PipeKept s (takeRecord r (popQueue s)) := by
  obtain ⟨f, hpop⟩ := popQueue_eq s
  unfold takeRecord
  split
  · exact take_pipeKept _ _ hroom (by rw [hpop]; rfl) (by rw [hpop]; rfl)
  · rw [hpop]
    exact ⟨queueSound_tail, fun h => ringSound_of_eq h rfl rfl rfl⟩

theorem handOn_pipeKept (e : Bool) (s : State) : PipeKept s (handOn e s) := by
  unfold handOn
  split
  · exact .of_eq
  · refine passOnFor_keeps (PipeKept s) (fun t h _ => h.trans (.of_empty rfl)) (fun e t h _ _ => ?_)
      (fun t h _ _ _ => h.trans (.of_empty rfl)) (fun r q t h _ _ hroom => h.trans (takeRecord_pipeKept r hroom))
      _ e s .of_eq
    obtain ⟨f, hf⟩ := enterIdle_eq e t
    rw [hf]
    exact h.trans (.of_empty rfl)

theorem resume_pipeKept (s : State) : PipeKept s (resume s) := by
  rw [resume_eq]
  split
  · exact (beginUnwind_pipeKept s).trans (handOn_pipeKept true _)
  · exact handOn_pipeKept true s

theorem takeStep_pipeKept (op : Opcode) (o : Operands) (s : State) : PipeKept s (takeStep op o (take op o) s) := by
  rw [takeStep_eq]
  split
  · rename_i hcan
    simp only [canTake, Bool.and_eq_true, Bool.not_eq_true'] at hcan
    obtain ⟨⟨⟨⟨-, hroom⟩, -⟩, -⟩, -⟩ := hcan
    obtain ⟨f, hbegin⟩ := beginTake_eq s
    exact (take_pipeKept op o hroom (by rw [hbegin]; rfl) (by rw [hbegin]; rfl)).trans (handOn_pipeKept true _)
  · exact .of_eq

/-- R98, R102: the completion owed to the command in hand finds its place in the ring. -/
theorem finishCommand_pipeKept (r : CmdRec) (f : FlagWord) {s : State} (hand : hasCommand s = true) :
    PipeKept s (finishCommand r f s) := by
  unfold finishCommand
  split
  · rename_i howed
    split
    · rename_i op _
      exact ⟨id, fun h => RecordsOnce.ringSound (s := s) (complete_recordsOnce op r.ops .done rfl) (h.2 hand howed)⟩
    · exact .of_eq
  · exact .of_eq

theorem finishAbort_pipeKept (s : State) : PipeKept s (finishAbort s) := by
  unfold finishAbort
  split
  · rename_i r hs
    exact (finishCommand_pipeKept r s.flags (by simp [hasCommand, hs, inHand])).trans (.of_empty rfl)
  · exact .of_eq

/-! #### The engine completions (R29, R98, R118) -/

theorem postDone_pipeKept (op : Operation) (s : State) : PipeKept s (postDone op s) := by
  obtain ⟨q, f, n, h⟩ := postedState_eq op s
  rw [postDone_eq]
  refine PipeKept.trans ?_ (arbitrate_pipeKept _)
  rw [h]
  exact .of_eq

theorem arithDone_pipeKept {r : CmdRec} (op : Operation) {s : State} (hs : s.seq = .executing r) :
    PipeKept s (arithDone r op s) := by
  have hfinish : ∀ es f, PipeKept s ((finishCommand r f (s.withEntries es)).withSeq .stalled) := fun es f =>
    (PipeKept.trans .of_eq (finishCommand_pipeKept r f (s := s.withEntries es) (hasCommand_executing hs))).trans
      (.of_empty rfl)
  have hend : ∀ {t u}, PipeKept s t → SameCore t u → PipeKept s (resume (arbitrate (freeEngine u))) := fun h e =>
    ((h.trans (.of_same e)).trans (.trans .of_eq (arbitrate_pipeKept _))).trans (resume_pipeKept _)
  unfold arithDone
  dsimp only
  split
  · exact hend ((hfinish _ _).trans .of_eq) (memberDone_sameCore _ _).1
  · exact hend ((hfinish _ _).trans .of_eq) (plainDone_sameCore _ _).1

theorem restoreDone_pipeKept (op : Operation) (s : State) : PipeKept s (restoreDone op s) := by
  have hend : ∀ {t}, PipeKept s t → PipeKept s (resume (arbitrate (freeEngine (refreshPostReq t)))) := fun h =>
    (h.trans (.trans .of_eq (arbitrate_pipeKept _))).trans (resume_pipeKept _)
  unfold restoreDone
  dsimp only
  split
  · exact hend (.trans .of_eq (finishAbort_pipeKept _))
  · exact hend .of_eq

/-! #### The events of an instant (R150) -/

theorem unitArrives_pipeKept (ch : Fin 8) (s : State) : PipeKept s (unitArrives ch s) := by
  obtain ⟨t, hsame, h⟩ := unitArrives_sameCore ch s
  rw [h]
  exact (PipeKept.of_same hsame).trans (.trans .of_eq (arrive_pipeKept (refreshPostReq t)))

theorem batchExpiry_pipeKept (s : State) : PipeKept s (batchExpiry s) := by
  unfold batchExpiry
  split
  · exact .of_eq
  · exact (openVoid_pipeKept 2 s).trans (resume_pipeKept _)

theorem runTimed_pipeKept (e : TimedEvent) (s : State) : PipeKept s (runTimed e s) := by
  cases e with
  | unit ch => exact unitArrives_pipeKept ch s
  | frameEnd => exact .of_same (frameEnd_outside s).toSameCore
  | batchExpiry => exact batchExpiry_pipeKept s
  | intervalReload => exact .of_same (intervalReload_unitsKept s).toSameCore
  | intervalEvent => exact .of_same (intervalEvent_outside s).toSameCore
  | linkTimeout => exact .of_same (linkTimeout_outside s).toSameCore

theorem runThreads_pipeKept (threads : List (List TimedEvent)) (s : State) :
    PipeKept s (runThreads runTimed threads s) :=
  runThreads_keeps runTimed (PipeKept s) (fun e _ h => h.trans (runTimed_pipeKept e _)) (fun _ _ h => h.trans .of_eq)
    threads s .of_eq

theorem deliverTick_pipeKept (others : List (List TimedEvent)) (s : State) : PipeKept s (deliverTick others s) :=
  (PipeKept.trans .of_eq (.of_same (timeoutLower_outside _).toSameCore)).trans (runThreads_pipeKept _ _)

theorem execSample_pipeKept {levels : Byte} {s t : State} (h : execSample levels s = .next t) : PipeKept s t := by
  have hsampled : PipeKept s (sampledState levels s) := .of_same (sampledState_unitsKept levels s).toSameCore
  rw [execSample_eq] at h
  cases h
  split
  · exact hsampled.trans (deliverTick_pipeKept _ _)
  · exact hsampled.trans (runThreads_pipeKept _ _)

theorem execUnitArrival_pipeKept {ch : Fin 8} {s t : State} (h : execUnitArrival ch s = .next t) : PipeKept s t := by
  cases h
  split
  · exact .trans .of_eq (unitArrives_pipeKept ch _)
  · exact .of_eq

/-! #### The register window and the resets (R70, R103, R191) -/

theorem submitWrite_pipeKept (s : State) : PipeKept s (submitWrite s) := by
  unfold submitWrite
  dsimp only
  split
  · rename_i hv
    obtain ⟨hwell, hroom⟩ := accepted_spec hv
    rw [recheck_eq]
    refine PipeKept.trans ?_ (handOn_pipeKept false _)
    refine ⟨fun ⟨_, hall⟩ => ⟨List.length_append.trans_le hroom, fun r hr => ?_⟩, fun h => ringSound_of_eq h rfl rfl rfl⟩
    rcases List.mem_append.mp hr with hr | hr
    · exact hall r hr
    · rw [List.mem_singleton.mp hr]
      exact hwell
  · exact .of_eq

theorem popRing_pipeKept (s : State) : PipeKept s (popRing s) := by
  unfold popRing
  split
  · exact .of_eq
  · rename_i c rest hr
    rw [recheck_eq]
    refine PipeKept.trans ?_ (handOn_pipeKept false _)
    refine ⟨id, fun ⟨hlen, hroom⟩ => ?_⟩
    rw [hr, List.length_cons] at hlen hroom
    exact ⟨Nat.le_of_succ_le hlen, fun hc ho => Nat.lt_of_succ_lt (hroom hc ho)⟩

theorem interfaceReset_pipeKept (s : State) : PipeKept s (interfaceReset s) :=
  .of_nil (interfaceReset_hostReset s).cmdQueue (interfaceReset_hostReset s).ring

theorem writeReg_pipeKept (a : Nat) (v : Byte) (s : State) : PipeKept s (writeReg a v s) :=
  writeReg_cases (P := PipeKept s)
    (control := iteInduction (fun _ => interfaceReset_pipeKept s) fun _ => .of_eq)
    (window := fun _ => .of_eq) (submit := submitWrite_pipeKept s) (ring := popRing_pipeKept s)
    (events := .of_same (popEvents_outside s).toSameCore) (interval := fun _ => .of_eq) (limit := fun _ => .of_eq)
    (linkctrl := .of_same (writeLinkctrl_outside v s).toSameCore) (timeout := .of_eq) (none := .of_eq) a

theorem hostWrite_pipeKept (a : Nat) (v : Byte) (s : State) : PipeKept s (hostWrite (writeReg a v) s) := by
  unfold hostWrite
  split
  · exact .trans .of_eq (writeReg_pipeKept a v _)
  · exact .of_eq

/-- No row takes the command queue or the completion ring out of its bounds. -/
theorem exec_pipeKept {c : Instr} {s t : State} (h : exec c s = .next t) : PipeKept s t :=
  exec_rows (P := fun _ t => PipeKept s t)
    (powerOn := .of_nil rfl rfl)
    (reset := iteInduction (fun _ => (interfaceReset_pipeKept s).trans .of_eq) fun _ => .of_eq)
    (rise := .of_eq)
    (sample := fun _ _ => execSample_pipeKept)
    (unit := fun _ _ => execUnitArrival_pipeKept)
    (tick := .trans .of_eq (deliverTick_pipeKept [] _))
    (grant := arrive_pipeKept s)
    (post := fun t ht => by
      rcases execPostCompletion_cases ht with ⟨_, _, _, _, -, rfl⟩ | rfl
      · exact postDone_pipeKept _ s
      · exact .of_eq)
    (arith := fun t ht => by
      rcases execArithmeticCompletion_cases ht with ⟨_, _, -, -, hs, rfl⟩ | rfl
      · exact arithDone_pipeKept _ hs
      · exact .of_eq)
    (restore := fun t ht => by
      rcases execRestoreCompletion_cases ht with ⟨_, _, -, rfl⟩ | rfl
      · exact restoreDone_pipeKept _ s
      · exact .of_eq)
    (takes := fun op o => takeStep_pipeKept op o s)
    (batchTimer := iteInduction (fun _ => batchExpiry_pipeKept s) fun _ => .of_eq)
    (interval := iteInduction (fun _ => (PipeKept.of_same (intervalReload_unitsKept s).toSameCore).trans
      (.of_same (intervalEvent_outside _).toSameCore)) fun _ => .of_eq)
    (frame := .of_same (frameEnd_outside s).toSameCore)
    (timeout := .of_same (linkTimeout_outside s).toSameCore)
    (write := fun _ a v _ => hostWrite_pipeKept a.toNat v s)
    (read := fun _ a _ => .of_same (readReg_outside a.toNat s).toSameCore)
    (falling := .of_same (fallingEdge_outside s).toSameCore)
    (rising := .of_same (risingEdge_outside s).toSameCore) h

/-! #### Every block on its own -/

/-- Each of the three blocks stays sound whatever the others are. -/
theorem exec_eachBlockSound {c : Instr} {s t : State} (h : exec c s = .next t) : (ChansSound s → ChansSound t)
    ∧ (TimebaseSound s.timebase → TimebaseSound t.timebase) ∧ (LinkSound s.link → LinkSound t.link) := by
  cases c with
  | powerOnReset =>
    cases h
    have hr := invariantHoldsAtReset
    exact ⟨fun _ => hr.chans, fun _ => hr.timebase, fun _ => hr.link⟩
  | rstnRise => cases h; exact ⟨id, id, id⟩
  | interfaceReset =>
    cases h
    split
    · have hk := interfaceReset_undisturbed s
      exact ⟨hk.chans, hk.timebase, hk.link⟩
    · exact ⟨id, id, id⟩
  | _ =>
    have hk := exec_blocksKept h nofun nofun nofun
    exact ⟨hk.chans, hk.timebase, hk.link⟩

/-- Settles O11: a step idles or runs one row, which keeps each block on its own premise. -/
theorem blocksStaySound : Obligations.BlocksStaySound := by
  intro s t h
  unfold step at h
  split at h
  · cases h
    exact ⟨id, id, id, id, id⟩
  · obtain ⟨hchans, htime, hlink⟩ := exec_eachBlockSound h
    exact ⟨hchans, htime, hlink, (exec_pipeKept h).queue, (exec_pipeKept h).ring⟩

end Sys2Proof.Machine
end

section
/-! ### Refusals at a take, MARK, and BATCH OPEN and ABORT (R71–R73, R87, R89, R92) -/

namespace Sys2Proof.Machine

open Sys2Proof.Safety

set_option Elab.async false

/-! #### The take of a last record that is completed or refused at once -/

/-- R96–R99: the take of the last record, and the sequencer passed on. -/
theorem exec_lastTake {op : Opcode} {o : Operands} {s : State} (h : LastTake op o s) :
    exec (takeRow op o) s = .next (handOn true (take op o (taken s))) := by
  rw [exec_takeRow, takeStep_eq, if_pos h.1, beginTake_last h.2]
  rfl

/-- R76, R99: a take that leaves nothing but its record and a batch unit that is not unwinding, by itself and as
the last one. -/
theorem take_recorded {op : Opcode} {o : Operands} {s : State} {st : Status} {b : Batch} (hb : b.phase ≠ .unwinding)
    (htake : ∀ u : State, u.batch = s.batch → u.flags = s.flags → take op o u = complete op o st (u.withBatch b)) :
    take op o s = recorded op o st (s.withBatch b)
      ∧ (LastTake op o s → exec (takeRow op o) s = .next (completed op o st (s.withBatch b))) := by
  refine ⟨htake s rfl rfl, fun h => ?_⟩
  have he : hasCommand ((taken s).withBatch b) = false := (canTake_spec h.1).1
  rw [exec_lastTake h, htake (taken s) rfl rfl, handOn_complete rfl he hb]
  rfl

/-! #### The three checks (R71–R73) -/

/-- R71, R123: what is left of the batch unit by a command refused VOID. -/
def voidLeft (op : Opcode) (b : Batch) : Batch := if closesVoid op then { b with phase := .none } else b

theorem closesVoid_iff (op : Opcode) : closesVoid op = true ↔ op = .batchCommit ∨ op = .batchAbort := by
  unfold closesVoid
  rw [Bool.or_eq_true, beq_iff_eq, beq_iff_eq]

theorem voidLeft_phase (op : Opcode) {b : Batch} (h : b.phase = .void) : (voidLeft op b).phase ≠ .unwinding := by
  unfold voidLeft
  split
  · exact nofun
  · rw [h]
    exact nofun

theorem take_void (op : Opcode) (o : Operands) {s : State} (h : s.batch.phase = .void) :
    take op o s = complete op o .void (s.withBatch (voidLeft op s.batch)) := by
  rw [take_eq]
  unfold checked voidLeft
  rw [if_pos h]
  split <;> rfl

theorem take_skipped (op : Opcode) {o : Operands} {s : State} (h : s.batch.phase ≠ .void)
    (hcond : condHolds o.cond s.flags = false) : take op o s = complete op o .skipped s := by
  rw [take_eq]
  unfold checked
  rw [if_neg h, hcond]
  rfl

theorem take_refused {op : Opcode} {o : Operands} {s : State} {st : Status} (h : s.batch.phase ≠ .void)
    (hcond : condHolds o.cond s.flags = true) (hclass : classRefusal op s.batch.phase = some st) :
    take op o s = complete op o st s := by
  rw [take_eq]
  unfold checked
  rw [if_neg h, if_pos hcond, hclass]

theorem take_run {op : Opcode} {o : Operands} {s : State} (h : s.batch.phase ≠ .void)
    (hcond : condHolds o.cond s.flags = true) (hclass : classRefusal op s.batch.phase = none) :
    take op o s = takeBody op o s :=
  (take_eq op o s).trans (checked_run h hcond hclass)

/-- Settles O39: the record and the batch unit left, by whether the command closes the void. -/
theorem voidRefusesEveryCommand : Obligations.VoidRefusesEveryCommand := by
  intro op o s hv
  have hleft : (if op = .batchCommit ∨ op = .batchAbort then { s with batch := { s.batch with phase := .none } } else s)
      = s.withBatch (voidLeft op s.batch) := by
    unfold voidLeft
    simp only [closesVoid_iff]
    split <;> rfl
  rw [hleft]
  refine take_recorded (voidLeft_phase op hv) fun u hu _ => ?_
  rw [← hu]
  exact take_void op o (by rw [hu]; exact hv)

/-- Settles O40. -/
theorem falseConditionSkips : Obligations.FalseConditionSkips := by
  intro op o s hphase hcond
  have hv : s.batch.phase ≠ .void ∧ s.batch.phase ≠ .unwinding := by
    rcases hphase with hp | hp <;> rw [hp] <;> exact ⟨nofun, nofun⟩
  refine take_recorded (b := s.batch) hv.2 fun u hu hf => ?_
  rw [← hu]
  exact take_skipped op (by rw [hu]; exact hv.1) (by rw [hf]; exact hcond)

/-- R73: a command refused by its class, by itself and as the last one. -/
theorem classRefused {op : Opcode} {o : Operands} {s : State} {p : BatchPhase} {st : Status}
    (hcond : condHolds o.cond s.flags = true) (hp : s.batch.phase = p) (hclass : classRefusal op p = some st)
    (hne : p ≠ .void ∧ p ≠ .unwinding) :
    take op o s = recorded op o st s
      ∧ (LastTake op o s → exec (takeRow op o) s = .next (completed op o st s)) := by
  subst hp
  refine take_recorded (b := s.batch) hne.2 fun u hu hf => ?_
  rw [← hu]
  exact take_refused (by rw [hu]; exact hne.1) (by rw [hf]; exact hcond) (by rw [hu]; exact hclass)

theorem classRefusal_config {op : Opcode} (h : isConfig op = true) :
    classRefusal op .opened = some .inBatch ∧ classRefusal op .none = none := by
  cases op with
  | setattr | setthresh | chanconfig | chanclear => exact ⟨rfl, rfl⟩
  | _ => cases h

/-- Settles O41: the table of the classes, and a refusal at each of its entries. -/
theorem classRefusals : Obligations.ClassRefusals := by
  intro op o s hcond
  have hopened : BatchPhase.opened ≠ .void ∧ BatchPhase.opened ≠ .unwinding := ⟨nofun, nofun⟩
  refine ⟨fun hc hp => classRefused hcond hp (classRefusal_config hc).1 hopened, ?_, ?_, fun hc ho hm ha => ?_, ?_, ?_⟩
  · rintro rfl hp
    exact classRefused hcond hp rfl hopened
  · rintro (rfl | rfl) hp <;> exact classRefused hcond hp rfl ⟨nofun, nofun⟩
  · cases op with
    | setattr | setthresh | chanconfig | chanclear => cases hc
    | batchOpen => exact absurd rfl ho
    | batchCommit => exact absurd rfl hm
    | batchAbort => exact absurd rfl ha
    | _ => rfl
  · rintro (hc | rfl)
    · exact (classRefusal_config hc).2
    · rfl
  · rintro (rfl | rfl) <;> rfl

/-! #### MARK (R92) -/

/-- R92: what a MARK answers. -/
theorem take_mark (o : Operands) (s : State) : take .mark o s = complete .mark o
    (if s.batch.phase = .void then .void else if condHolds o.cond s.flags then .done else .skipped) s := by
  by_cases hv : s.batch.phase = .void
  · rw [if_pos hv]
    exact take_void .mark o hv
  · rw [if_neg hv]
    by_cases hcond : condHolds o.cond s.flags = true
    · rw [if_pos hcond]
      exact take_run hv hcond rfl
    · rw [if_neg hcond]
      exact take_skipped .mark hv (Bool.eq_false_iff.mpr hcond)

/-- Settles O42: the statuses agree in every batch state; in UNWINDING no record is taken as the last one. -/
theorem markCompletes : Obligations.MarkCompletes := by
  rintro o s st rfl
  have hlast : ∀ h : LastTake .mark o s, s.batch.phase ≠ .unwinding := fun h => (canTake_spec h.1).2
  refine ⟨take_mark o s, fun h => ?_⟩
  refine (take_recorded (b := s.batch) (hlast h) fun u hu hf => ?_).2 h
  rw [← hu, ← hf]
  exact take_mark o u

/-! #### BATCH OPEN and ABORT (R87, R89, R117) -/

/-- R87, R112: the batch unit of a batch just opened. -/
def openedBatch (s : State) : Batch :=
  { s.batch with
    phase := .opened, undo := [], member := false, deferred := false, timer := batchTimerLoad s.batchLimit }

/-- Settles O45: the body's record, and the sequencer IDLE behind it. -/
theorem batchOpens : Obligations.BatchOpens := by
  intro o s h
  refine (exec_takeRow_run h).trans (congrArg _ ?_)
  exact handOn_complete (s := (taken s).withBatch (openedBatch s)) rfl (canTake_spec h.1.1).1 nofun .batchOpen o .done

/-- R89, R117: the ABORT in hand with its completion owed, the batch unit UNWINDING. -/
def aborting (o : Operands) (s : State) : State :=
  enterUnwinding .abort ((taken s).withSeq (.unwinding (some (recordOf .batchAbort o))))

/-- R117, R118: with a record to restore the unwinder makes its first request, and the ABORT stays in hand. -/
theorem exec_batchAbort_unwinds {o : Operands} {s : State} (h : LastRun .batchAbort o s) {u : UndoRec} {us : List UndoRec}
    (hu : s.batch.undo = u :: us) :
    exec (.batchAbort o) s = .next (arrive (setCmdReq true (aborting o s))) := by
  have hbody : takeBody .batchAbort o (taken s) = arrive (setCmdReq true (aborting o s)) := by
    change batchAbortBody o (taken s) = _
    unfold batchAbortBody beginUnwind
    rw [show (taken s).batch.undo = u :: us from hu]
    dsimp only
    rw [show (enterUnwinding .abort ((taken s).withSeq (.unwinding (some (recordOf .batchAbort o))))).batch.undo
      = u :: us from hu]
    rfl
  refine (exec_takeRow_run h).trans (congrArg _ ?_)
  rw [hbody]
  exact handOn_hand true (arrive_seqKept _).hasCommand

/-- Settles O47: by the undo stack, and the first request at a busy and at a FREE engine. -/
theorem batchAborts : Obligations.BatchAborts := by
  intro o s h
  refine ⟨fun hu => ?_, fun u us hu hb => ?_, fun u us hu hf hp => ?_⟩
  · have hbody : takeBody .batchAbort o (taken s)
        = complete .batchAbort o .done (endUnwind (enterUnwinding .abort (taken s))) := by
      change batchAbortBody o (taken s) = _
      unfold batchAbortBody
      rw [show (taken s).batch.undo = [] from hu]
    refine (exec_takeRow_run h).trans (congrArg _ ?_)
    rw [hbody]
    exact handOn_complete (s := endUnwind (enterUnwinding .abort (taken s))) rfl (canTake_spec h.1.1).1 nofun
      .batchAbort o .done
  · rw [exec_batchAbort_unwinds h hu, arrive_busy (setCmdReq true (aborting o s)) hb]
    rfl
  · rw [exec_batchAbort_unwinds h hu, arrive_free (setCmdReq true (aborting o s)) hf,
      arbitrate_command (s := setCmdReq true (aborting o s)) rfl (.inl hp),
      grantCommand_restoring (s := setCmdReq true (aborting o s)) rfl hu,
      show (setCmdReq true (aborting o s)).engine.postReq = false from hp]
    rfl

end Sys2Proof.Machine
end

section
/-! ### REPORT and REPORT PERIODIC, and the submit write (R70, R90, R91, R94, R99, R180) -/

namespace Sys2Proof.Machine

open Sys2Proof.Safety

set_option Elab.async false

/-! #### REPORT and REPORT PERIODIC (R90, R91, R161, R165) -/

theorem tryStart_stays (n : Nat) {s : State} (h : s.link.state ≠ .idle) : tryStart n s = s := by
  rcases tryStart_cases n s with ⟨j, js, hs, -⟩ | ⟨-, heq⟩
  · exact absurd hs h
  · exact heq

/-- R161, R165: at a link that is not IDLE a job only joins the report queue. -/
theorem appendJob_link (j : Job) {s : State} (h : s.link.state ≠ .idle) :
    (appendJob j s).link = { s.link with jobs := s.link.jobs ++ [j] } :=
  congrArg State.link (tryStart_stays 1 (s := s.withLink { s.link with jobs := s.link.jobs ++ [j] }) h)

/-- R90: a REPORT at a full report queue. -/
theorem exec_report_refused {o : Operands} {s : State} (h : LastRun .report o s) (hfull : reportFull s = true) :
    exec (.report o) s = .next (completed .report o .reportFull s) :=
  exec_lastRun (u := taken s) h (if_pos hfull) rfl rfl rfl

/-- R90, R161: a REPORT whose job joins the report queue. -/
theorem exec_report_queued {o : Operands} {s : State} (h : LastRun .report o s) (hroom : reportFull s = false) {j : Job}
    (hj : j = ⟨o.tag, false, o.reportList⟩) :
    exec (.report o) s = .next (completed .report o .done { s with link := (appendJob j (taken s)).link }) := by
  have hjob := (appendJob_sameCore j (taken s)).1
  have hbody : takeBody .report o (taken s) = complete .report o .done (appendJob j (taken s)) := by
    rw [hj]
    exact if_neg (by rw [show reportFull (taken s) = false from hroom]; exact Bool.false_ne_true)
  refine (exec_lastRun h hbody hjob.cmdQueue hjob.seq hjob.batch).trans ?_
  rw [appendJob_eq]
  rfl

theorem exec_reportPeriodic {o : Operands} {s : State} (h : LastRun .reportPeriodic o s) :
    exec (.reportPeriodic o) s = .next (completed .reportPeriodic o .done { s with
      link := { s.link with template := if o.a = 0 then none else some ⟨o.tag, true, o.reportList⟩ } }) :=
  (exec_lastRun (u := (taken s).withLink { s.link with
    template := if o.a = 0 then none else some ⟨o.tag, true, o.reportList⟩ }) h rfl rfl rfl rfl).trans rfl

/-- Settles O48: by whether the report queue is full, and the two ways of a frame start. -/
theorem reportsQueueJobs : Obligations.ReportsQueueJobs := by
  refine ⟨fun o s h j hj => ⟨fun hfull => ?_, fun hroom hs => ?_, fun k ks hroom hs hk => ?_⟩,
    fun o s h => exec_reportPeriodic h⟩
  · exact exec_report_refused h (reportFull_eq_true (Nat.not_lt.mpr hfull))
  · rw [exec_report_queued h (reportFull_eq_false hroom) hj]
    rw [appendJob_link j (s := taken s) hs]
    rfl
  · refine ⟨_, exec_report_queued h (reportFull_eq_false hroom) hj, ?_, ?_⟩
    · rw [← hk, appendJob_eq]
      rfl
    · exact tryStart_started 1 ((taken s).withLink { s.link with jobs := s.link.jobs ++ [j] }) k ks hs hk

/-! #### The verdict of a submit write (R70, R94) -/

theorem exec_submit (v : Byte) {s : State} (hr : s.rstn = true) :
    exec (.submit v) s = .next (submitWrite (phaseToState s)) := congrArg _ (if_pos hr)

theorem submitVerdict_malformed {s : State} (h : malformed s.window.staging = true) : submitVerdict s = .malformed :=
  if_pos h

theorem submitVerdict_full {s : State} (h : malformed s.window.staging = false) (hq : 16 ≤ s.cmdQueue.length) :
    submitVerdict s = .queueFull := by
  unfold submitVerdict
  rw [h]
  exact if_pos hq

theorem submitVerdict_accepted {s : State} (h : malformed s.window.staging = false) (hq : s.cmdQueue.length < 16) :
    submitVerdict s = .accepted := by
  unfold submitVerdict
  rw [h]
  exact if_neg (Nat.not_le.mpr hq)

/-- R70, R94, R175: the verdict of a submit write in place, and the LINKSTATUS phase STATE. -/
def verdictGiven (x : SubmitResult) (s : State) : State :=
  { s with window := { s.window with submit := x }, link := { s.link with lsPhase := .state } }

/-- R70: a record that is not accepted leaves its verdict only. -/
theorem exec_submit_refused (v : Byte) {s : State} (hr : s.rstn = true) {x : SubmitResult} (h : submitVerdict s = x)
    (hx : x ≠ .accepted) : exec (.submit v) s = .next (verdictGiven x s) := by
  rw [exec_submit v hr, ← h]
  exact congrArg _ (if_neg (by rw [← h] at hx; exact hx))

/-- R70: the staged record at the tail of the queue. -/
def submitted (s : State) : State := (verdictGiven .accepted s).withCmdQueue (s.cmdQueue ++ [s.window.staging])

/-- R70: behind an accepted record the sequencer's tests follow. -/
theorem exec_submit_accepted (v : Byte) {s : State} (hr : s.rstn = true) (h : submitVerdict s = .accepted) :
    exec (.submit v) s = .next (handOn false (submitted s)) := by
  have hwrite : submitWrite (phaseToState s)
      = handOn false ((verdictGiven (submitVerdict s) s).withCmdQueue (s.cmdQueue ++ [s.window.staging])) := if_pos h
  rw [exec_submit v hr, hwrite, h]
  rfl

/-! #### The sequencer's tests behind an accepted record (R99) -/

theorem passOn_stalls (e : Bool) {s : State} (hp : s.batch.phase ≠ .unwinding) (hq : s.cmdQueue ≠ [])
    (hfull : ringFull s = true) : passOn e s = s.withSeq .stalled := by
  obtain ⟨r, q, hcons⟩ := List.exists_cons_of_ne_nil hq
  unfold passOn passOnFor
  rw [if_neg hp, hcons]
  exact if_pos hfull

/-- R99: a single record taken, and the tests applied again. -/
theorem passOn_takes (e : Bool) {s : State} (hp : s.batch.phase ≠ .unwinding) {r : CmdRec} (hq : s.cmdQueue = [r])
    (hroom : ringFull s = false) {op : Opcode} (hop : opcodeOf r.code = some op) :
    passOn e s = handOn true (take op r.ops (taken s)) := by
  have hpop : popQueue s = s.withCmdQueue [] := by
    unfold popQueue
    rw [hq]
    rfl
  have hqueue : (take op r.ops (taken s)).cmdQueue = [] := take_cmdQueue op r.ops (taken s)
  unfold passOn passOnFor handOn passOn
  rw [if_neg hp, hq]
  dsimp only
  rw [hroom, if_neg Bool.false_ne_true, hpop]
  unfold takeRecord
  rw [hop, hqueue]
  rfl

/-- R95: a STALLED or IDLE sequencer has no batch to unwind. -/
theorem phase_of_rest {s : State} (h : handSound s = true) (hs : s.seq = .idle ∨ s.seq = .stalled) :
    s.batch.phase ≠ .unwinding := by
  unfold handSound at h
  rcases hs with hs | hs <;> rw [hs] at h <;> simp only [Bool.and_eq_true, bne_iff_ne] at h <;> exact h.1

/-- R99: an IDLE sequencer has no record waiting, a STALLED one finds the ring full. -/
theorem queue_nil_of_idle {s : State} (h : restSound s = true) (hs : s.seq = .idle) : s.cmdQueue = [] := by
  unfold restSound at h
  rw [hs] at h
  exact List.isEmpty_iff.mp h

theorem ring_full_of_stalled {s : State} (h : restSound s = true) (hs : s.seq = .stalled) : s.ring.length = 16 := by
  unfold restSound at h
  rw [hs] at h
  simp only [Bool.and_eq_true, beq_iff_eq] at h
  exact h.2

theorem ringFull_eq_true {s : State} (h : 16 ≤ s.ring.length) : ringFull s = true := decide_eq_true h

theorem ringFull_eq_false {s : State} (h : s.ring.length < 16) : ringFull s = false :=
  decide_eq_false (Nat.not_le.mpr h)

theorem recordOf_ops {r : CmdRec} {op : Opcode} (h : opcodeOf r.code = some op) : recordOf op r.ops = r := by
  have hcode : opcodeByte op = r.code := beq_iff_eq.mp (List.find?_some h :)
  unfold recordOf
  rw [hcode]

/-- R96: on an empty queue an IDLE sequencer can take a well-formed record while the ring has room. -/
theorem canTake_idle {r : CmdRec} {s : State} (hr : s.rstn = true) (hs : s.seq = .idle) (hp : s.batch.phase ≠ .unwinding)
    (hwell : malformed r = false) (hq : s.cmdQueue = []) (hroom : ringFull s = false) : canTake r s = true := by
  unfold canTake
  rw [hr, hasCommand_idle hs, hroom, bne_iff_ne.mpr hp, hwell, hq]
  rfl

/-- R99: while the batch unwinds the record waits. -/
theorem handOn_submitted_unwinding {s : State} (hs : s.seq = .unwinding none) (hp : s.batch.phase = .unwinding) :
    handOn false (submitted s) = submitted s := by
  have he : hasCommand (submitted s) = false := by
    unfold hasCommand
    rw [show (submitted s).seq = .unwinding none from hs]
    rfl
  rw [handOn_unwinding_empty (s := submitted s) false hp he, ← hs]
  rfl

/-- R99: while the ring is full the record waits for a sequencer that is STALLED. -/
theorem handOn_submitted_full {s : State} (hs : s.seq = .idle ∨ s.seq = .stalled) (hp : s.batch.phase ≠ .unwinding)
    (hfull : 16 ≤ s.ring.length) : handOn false (submitted s) = (submitted s).withSeq .stalled := by
  have he : hasCommand (submitted s) = false := by
    unfold hasCommand
    rcases hs with hs | hs <;> rw [show (submitted s).seq = s.seq from rfl, hs] <;> rfl
  rw [handOn_empty false he]
  exact passOn_stalls (s := submitted s) false hp (List.append_ne_nil_of_right_ne_nil _ (List.cons_ne_nil _ _))
    (ringFull_eq_true hfull)

/-- R96, R99: an IDLE sequencer takes the record at once, as its take row does. -/
theorem handOn_submitted_take {s : State} (hr : s.rstn = true) (hs : s.seq = .idle) (hp : s.batch.phase ≠ .unwinding)
    (hwell : malformed s.window.staging = false) (hq : s.cmdQueue = []) (hroom : s.ring.length < 16) {op : Opcode}
    (hop : opcodeOf s.window.staging.code = some op) :
    .next (handOn false (submitted s)) = exec (takeRow op s.window.staging.ops) (verdictGiven .accepted s) := by
  have hlast : LastTake op s.window.staging.ops (verdictGiven .accepted s) := by
    refine ⟨?_, by rw [show (verdictGiven .accepted s).cmdQueue = [] from hq]; exact Nat.zero_le 1⟩
    rw [recordOf_ops hop]
    exact canTake_idle hr hs hp hwell hq (ringFull_eq_false hroom)
  rw [exec_lastTake hlast, handOn_empty (s := submitted s) false (hasCommand_idle hs),
    passOn_takes (s := submitted s) false hp (congrArg (· ++ [_]) hq) (ringFull_eq_false hroom) hop]
  rfl

/-- Settles O50: the verdict by the staged bytes and the queue; behind an accepted record the sequencer's tests by its
state. -/
theorem submitDecides : Obligations.SubmitDecides := by
  intro v s hr
  refine ⟨fun hbad => ?_, fun hwell hfull => ?_, fun hwell hq => ?_⟩
  · exact exec_submit_refused v hr (submitVerdict_malformed hbad) nofun
  · exact exec_submit_refused v hr (submitVerdict_full hwell hfull) nofun
  · rw [exec_submit_accepted v hr (submitVerdict_accepted hwell hq)]
    refine ⟨fun hh => ?_, fun hi hs => ?_, fun hi hs => ?_, fun hi hs hfull => ?_, fun op hi hs hroom hop => ?_⟩
    · exact congrArg _ (handOn_hand (s := submitted s) false hh)
    · have hp := phase_of_rest hi.sound.hand (.inr hs)
      rw [handOn_submitted_full (.inr hs) hp (ring_full_of_stalled hi.rest hs).ge, ← hs]
      rfl
    · rw [handOn_submitted_unwinding hs (((handSound_unwinding hs).mp hi.sound.hand).1)]
      rfl
    · have hp := phase_of_rest hi.sound.hand (.inl hs)
      rw [handOn_submitted_full (.inl hs) hp hfull.ge]
      unfold submitted
      rw [queue_nil_of_idle hi.rest hs]
      rfl
    · have hp := phase_of_rest hi.sound.hand (.inl hs)
      exact handOn_submitted_take hr hs hp hwell (queue_nil_of_idle hi.rest hs) hroom hop

end Sys2Proof.Machine
end

section
/-! ### The flag word (R77, R191) -/

namespace Sys2Proof.Machine

open Sys2Proof.Safety

set_option Elab.async false

/-! #### Events, the engine and the batch unit leave the flag word -/

theorem appendEvent_flags (b : EventBody) (s : State) : (appendEvent b s).flags = s.flags := by
  obtain ⟨q, f, h⟩ := appendEvent_eq b s
  rw [h]
  rfl

theorem appendThreads_flags (threads : List (List EventBody)) (s : State) :
    (appendThreads threads s).flags = s.flags := by
  obtain ⟨q, f, n, h⟩ := appendThreads_eq threads s
  rw [h]
  rfl

theorem arrive_flags (s : State) : (arrive s).flags = s.flags := (arrive_grantKept s).flags

theorem arbitrate_flags (s : State) : (arbitrate s).flags = s.flags := (arbitrate_grantKept s).flags

theorem beginUnwind_flags (s : State) : (beginUnwind s).flags = s.flags := by rw [beginUnwind_eq]

theorem openVoid_flags (d : Byte) (s : State) : (openVoid d s).flags = s.flags := appendEvent_flags _ s

/-! #### The takes and the sequencer leave the flag word (R77) -/

theorem complete_flags (op : Opcode) (o : Operands) (st : Status) (s : State) :
    (complete op o st s).flags = s.flags := rfl

theorem arithBody_flags (op : Opcode) (o : Operands) (s : State) : (arithBody op o s).flags = s.flags := by
  unfold arithBody
  split
  · split
    · exact (beginUnwind_flags _).trans (openVoid_flags 1 (complete op o .undoFull s))
    · exact arrive_flags _
  · exact arrive_flags _

theorem commitBatch_flags (s : State) : (commitBatch s).flags = s.flags := by
  have hclosed : (closeBatch s).flags = s.flags := appendThreads_flags _ _
  rw [commitBatch_eq, schedule_eq]
  exact hclosed

theorem appendJob_flags (j : Job) (s : State) : (appendJob j s).flags = s.flags := by rw [appendJob_eq]

theorem takeBody_flags (op : Opcode) (o : Operands) (s : State) : (takeBody op o s).flags = s.flags := by
  cases op with
  | mark | chanclear | batchOpen | reportPeriodic => exact complete_flags _ o .done _
  | add | sub | move | negate | clear | compare => exact arithBody_flags _ o s
  | setattr => unfold takeBody setattrBody; dsimp only; split <;> rfl
  | setthresh =>
    unfold takeBody setthreshBody
    dsimp only
    split
    · rfl
    · split <;> rfl
  | chanconfig => unfold takeBody chanconfigBody; dsimp only; split <;> rfl
  | batchCommit => exact (complete_flags .batchCommit o .done (commitBatch s)).trans (commitBatch_flags s)
  | batchAbort =>
    unfold takeBody batchAbortBody
    dsimp only
    split
    · exact complete_flags .batchAbort o .done (endUnwind (enterUnwinding .abort s))
    · exact beginUnwind_flags _
  | report =>
    unfold takeBody reportBody
    dsimp only
    split
    · exact complete_flags .report o .reportFull s
    · exact (complete_flags .report o .done _).trans (appendJob_flags _ s)

theorem take_flags (op : Opcode) (o : Operands) (s : State) : (take op o s).flags = s.flags := by
  rw [take_eq]
  rcases checked_cases op o (takeBody op o) s with
    ⟨-, -, heq⟩ | ⟨-, -, heq⟩ | ⟨-, -, heq⟩ | ⟨st, -, -, -, heq⟩ | ⟨-, -, -, heq⟩ <;> rw [heq]
  case inr.inr.inr.inr => exact takeBody_flags op o s
  all_goals rfl

theorem takeRecord_flags (r : CmdRec) (s : State) : (takeRecord r (popQueue s)).flags = s.flags := by
  obtain ⟨f, hpop⟩ := popQueue_eq s
  unfold takeRecord
  rw [hpop]
  split
  · exact take_flags _ _ _
  · rfl

theorem handOn_flags (e : Bool) (s : State) : (handOn e s).flags = s.flags := by
  unfold handOn
  split
  · rfl
  · refine passOnFor_keeps (fun t => t.flags = s.flags) (fun t h _ => h) (fun e t h _ _ => ?_) (fun t h _ _ _ => h)
      (fun r q t h _ _ _ => (takeRecord_flags r t).trans h) _ e s rfl
    obtain ⟨f, hf⟩ := enterIdle_eq e t
    rw [hf]
    exact h

theorem resume_flags (s : State) : (resume s).flags = s.flags := by
  rw [resume_eq, handOn_flags]
  split
  · exact beginUnwind_flags s
  · rfl

theorem takeStep_flags (op : Opcode) (o : Operands) (s : State) : (takeStep op o (take op o) s).flags = s.flags := by
  rw [takeStep_eq]
  split
  · obtain ⟨f, hbegin⟩ := beginTake_eq s
    rw [handOn_flags, take_flags, hbegin]
    rfl
  · rfl

/-! #### The engine completions (R29, R77, R98, R118) -/

/-- R77, R98: an owed completion sets the flag word. -/
theorem finishCommand_flags_owed {s : State} (ho : s.owed = true) {r : CmdRec} (hop : (opcodeOf r.code).isSome = true)
    (f : FlagWord) : (finishCommand r f s).flags = f := by
  obtain ⟨op, hop⟩ := Option.isSome_iff_exists.mp hop
  rw [finishCommand_owed ho hop]
  rfl

theorem finishCommand_flags_silent {s : State} (ho : s.owed = false) (r : CmdRec) (f : FlagWord) :
    (finishCommand r f s).flags = s.flags := by
  unfold finishCommand
  rw [ho]
  rfl

theorem postDone_flags (x : Operation) (s : State) : (postDone x s).flags = s.flags := by
  obtain ⟨q, f, n, h⟩ := postedState_eq x s
  rw [postDone_eq, arbitrate_flags, h]
  rfl

theorem memberDone_flags (ws : List Written) (s : State) : (memberDone ws s).flags = s.flags := by
  unfold memberDone
  dsimp only
  split
  · exact openVoid_flags 2 _
  · rfl

/-- R98: of a completion's steps only the record touches the flag word. -/
theorem arithDone_flags (r : CmdRec) (x : Operation) (s : State) : (arithDone r x s).flags
    = (finishCommand r (opFlags x s.entries (opWrites x s.entries).2 (opWrites x s.entries).1)
        (s.withEntries (opWrites x s.entries).2)).flags := by
  unfold arithDone
  dsimp only
  rw [resume_flags, arbitrate_flags]
  split
  · exact memberDone_flags _ _
  · exact appendThreads_flags _ _

/-- R101, R119: the record of an ABORT carries the flag word and leaves it. -/
theorem finishAbort_flags (s : State) : (finishAbort s).flags = s.flags := by rw [finishAbort_eq]

theorem restoreDone_flags (x : Operation) (s : State) : (restoreDone x s).flags = s.flags := by
  unfold restoreDone
  dsimp only
  rw [resume_flags, arbitrate_flags]
  split
  · exact finishAbort_flags _
  · rfl

/-! #### The events of an instant, and the link, leave the flag word -/

theorem unitArrives_flags (ch : Fin 8) (s : State) : (unitArrives ch s).flags = s.flags := by
  unfold unitArrives schedule
  dsimp only
  rw [arrive_flags]
  split
  · exact appendEvent_flags _ _
  · rfl

theorem batchExpiry_flags (s : State) : (batchExpiry s).flags = s.flags := by
  unfold batchExpiry
  split
  · rfl
  · exact (resume_flags _).trans (openVoid_flags 2 s)

theorem tryStart_flags (n : Nat) (s : State) : (tryStart n s).flags = s.flags := by rw [tryStart_eq]

theorem dropHead_flags (k : EventKind) (d : Job → Byte) (l : LinkState) (s : State) :
    (dropHead k d l s).flags = s.flags := by
  obtain ⟨q, f, h⟩ := dropHead_eq k d l s
  rw [h]
  rfl

theorem setFrame_flags (f : Frame) (s : State) : (setFrame f s).flags = s.flags := by rw [setFrame_eq]

theorem completeFrame_flags (f : Frame) (s : State) : (completeFrame f s).flags = s.flags :=
  (tryStart_flags _ _).trans (dropHead_flags _ _ _ s)

theorem frameEnd_flags (s : State) : (frameEnd s).flags = s.flags := by
  unfold frameEnd
  split
  · exact completeFrame_flags _ s
  · rfl

theorem linkTimeout_flags (s : State) : (linkTimeout s).flags = s.flags := by
  unfold linkTimeout
  split
  · exact (tryStart_flags _ _).trans (dropHead_flags _ _ _ s)
  · rfl

theorem fallingEdge_flags (s : State) : (fallingEdge s).flags = s.flags := by
  unfold fallingEdge
  split
  · split <;> rfl
  · split <;> rfl
  · rfl

theorem risingEdge_flags (s : State) : (risingEdge s).flags = s.flags := by
  unfold risingEdge
  split
  · split <;> rfl
  · split
    · split
      · exact completeFrame_flags _ s
      · rfl
    · rfl
  · rfl

theorem intervalReload_flags (s : State) : (intervalReload s).flags = s.flags := by
  unfold intervalReload periodicJob
  split
  · rfl
  · split
    · exact appendEvent_flags _ _
    · exact appendJob_flags _ _

theorem intervalEvent_flags (s : State) : (intervalEvent s).flags = s.flags := by
  unfold intervalEvent
  split
  · exact appendEvent_flags _ s
  · rfl

theorem runTimed_flags (e : TimedEvent) (s : State) : (runTimed e s).flags = s.flags := by
  cases e with
  | unit ch => exact unitArrives_flags ch s
  | frameEnd => exact frameEnd_flags s
  | batchExpiry => exact batchExpiry_flags s
  | intervalReload => exact intervalReload_flags s
  | intervalEvent => exact intervalEvent_flags s
  | linkTimeout => exact linkTimeout_flags s

theorem runThreads_flags (threads : List (List TimedEvent)) (s : State) :
    (runThreads runTimed threads s).flags = s.flags :=
  runThreads_keeps runTimed (fun t => t.flags = s.flags) (fun e t h => (runTimed_flags e t).trans h) (fun _ _ h => h)
    threads s rfl

theorem timeoutLower_flags (s : State) : (timeoutLower s).flags = s.flags := by
  unfold timeoutLower
  split
  · split
    · split
      · rfl
      · exact setFrame_flags _ s
    · rfl
  · rfl

theorem deliverTick_flags (others : List (List TimedEvent)) (s : State) : (deliverTick others s).flags = s.flags :=
  (runThreads_flags _ _).trans (timeoutLower_flags _)

theorem drivenAdvance_flags (s : State) : (drivenAdvance s).flags = s.flags := by
  unfold drivenAdvance
  split
  · split
    · rfl
    · exact setFrame_flags _ s
  · rfl

theorem execSample_flags {levels : Byte} {s t : State} (h : execSample levels s = .next t) : t.flags = s.flags := by
  have hsampled : (sampledState levels s).flags = s.flags := drivenAdvance_flags s
  rw [execSample_eq] at h
  cases h
  split
  · exact (deliverTick_flags _ _).trans hsampled
  · exact (runThreads_flags _ _).trans hsampled

theorem execUnitArrival_flags {ch : Fin 8} {s t : State} (h : execUnitArrival ch s = .next t) : t.flags = s.flags := by
  cases h
  split
  · exact unitArrives_flags ch _
  · rfl

/-! #### The register window and the resets (R77, R191) -/

theorem submitWrite_flags (s : State) : (submitWrite s).flags = s.flags := by
  unfold submitWrite
  dsimp only
  split
  · exact handOn_flags false _
  · rfl

theorem popRing_flags (s : State) : (popRing s).flags = s.flags := by
  unfold popRing
  split
  · rfl
  · exact handOn_flags false _

theorem popEvents_flags (s : State) : (popEvents s).flags = s.flags := by
  obtain ⟨q, f, h⟩ := popEvents_eq s
  rw [h]
  rfl

theorem writeLinkctrl_flags (v : Byte) (s : State) : (writeLinkctrl v s).flags = s.flags := by
  rcases writeLinkctrl_cases v s with ⟨l, h⟩ | h <;> rw [h]
  · rfl
  · exact dropHead_flags _ _ _ _

/-- R178, R191: of the writes only one of CONTROL can touch the flag word. -/
theorem writeReg_flags (a : Nat) (v : Byte) (s : State) :
    (writeReg a v s).flags = if a = 0x01 then (writeControl v s).flags else s.flags := by
  unfold writeReg clearIrq setIrqEn writeTbctrl writeIntervalLow
  simp only [apply_ite State.flags, submitWrite_flags, popRing_flags, popEvents_flags, writeLinkctrl_flags,
    State.withIrqFlag_flags, State.withWindow_flags, State.withInterval_flags, State.withBatchLimit_flags,
    State.withLink_flags, ite_self]

/-- R191, R192: a write that resets nothing leaves the flag word. -/
theorem hostWrite_flags {a : Addr} {v : Byte} {s : State} (h : s.rstn = true → a = 0x01 → v.getLsbD 0 = false) :
    (hostWrite (writeReg a.toNat v) s).flags = s.flags := by
  unfold hostWrite
  split
  · rename_i hr
    rw [writeReg_flags]
    split
    · rename_i ha
      unfold writeControl
      rw [h hr (BitVec.eq_of_toNat_eq ha)]
      rfl
    · rfl
  · rfl

theorem readReg_flags (a : Nat) (s : State) : (readReg a s).flags = s.flags :=
  readReg_cases (P := fun t => t.flags = s.flags) rfl (fun _ _ _ _ _ _ => rfl) a

/-- R77, R191: a reset clears the flag word. -/
theorem exec_resets_flags {c : Instr} {s t : State} (h : exec c s = .next t) (hc : resets c s = true) :
    t.flags = FlagWord.cleared := by
  have hcleared : ∀ u, (interfaceReset u).flags = FlagWord.cleared := fun u =>
    (congrArg State.flags (interfaceReset_eq u)).trans (resetHostState_flags u)
  unfold resets at hc
  rw [Bool.or_eq_true, beq_iff_eq] at hc
  rcases hc with rfl | hc
  · cases h
    rfl
  · obtain ⟨-, ⟨-, heq⟩ | ⟨-, heq⟩⟩ := resetsInterface_cases hc <;> cases h.symm.trans heq <;> exact hcleared _

/-- R191: what a command that resets nothing is not. -/
theorem resets_eq_false {c : Instr} {s : State} (h : resets c s = false) :
    c ≠ .powerOnReset ∧ (s.rstn = true → c ≠ .interfaceReset
      ∧ ∀ a v, windowWrite c = some (a, v) → a = 0x01 → v.getLsbD 0 = false) := by
  unfold resets resetsInterface at h
  simp only [Bool.or_eq_false_iff, beq_eq_false_iff_ne] at h
  obtain ⟨hpower, h⟩ := h
  refine ⟨hpower, fun hr => ?_⟩
  rw [hr, Bool.true_and, Bool.or_eq_false_iff, beq_eq_false_iff_ne] at h
  obtain ⟨hpin, h⟩ := h
  refine ⟨hpin, fun a v hw ha => ?_⟩
  rw [hw] at h
  subst ha
  exact h

/-- R77: no other command but ARITHMETIC_COMPLETION touches the flag word. -/
theorem exec_flags {c : Instr} {s t : State} (h : exec c s = .next t) :
    resets c s = false → c ≠ .arithmeticCompletion → t.flags = s.flags :=
  exec_rows (P := fun c t => resets c s = false → c ≠ .arithmeticCompletion → t.flags = s.flags)
    (powerOn := fun hc _ => absurd rfl (resets_eq_false hc).1)
    (reset := fun hc _ => by
      split
      · rename_i hr
        exact absurd rfl ((resets_eq_false hc).2 hr).1
      · rfl)
    (rise := fun _ _ => rfl)
    (sample := fun _ _ ht _ _ => execSample_flags ht)
    (unit := fun _ _ ht _ _ => execUnitArrival_flags ht)
    (tick := fun _ _ => deliverTick_flags [] _)
    (grant := fun _ _ => arrive_flags s)
    (post := fun t ht _ _ => by
      rcases execPostCompletion_cases ht with ⟨_, _, _, _, -, rfl⟩ | rfl
      · exact postDone_flags _ s
      · rfl)
    (arith := fun _ _ _ hne => absurd rfl hne)
    (restore := fun t ht _ _ => by
      rcases execRestoreCompletion_cases ht with ⟨_, _, -, rfl⟩ | rfl
      · exact restoreDone_flags _ s
      · rfl)
    (takes := fun op o _ _ => takeStep_flags op o s)
    (batchTimer := fun _ _ => by
      split
      · exact batchExpiry_flags s
      · rfl)
    (interval := fun _ _ => by
      split
      · exact (intervalEvent_flags _).trans (intervalReload_flags s)
      · rfl)
    (frame := fun _ _ => frameEnd_flags s)
    (timeout := fun _ _ => linkTimeout_flags s)
    (write := fun c a v hw hc _ => hostWrite_flags fun hr => ((resets_eq_false hc).2 hr).2 a v hw)
    (read := fun _ a _ _ _ => readReg_flags a.toNat s)
    (falling := fun _ _ => fallingEdge_flags s)
    (rising := fun _ _ => risingEdge_flags s) h

/-- R77: a completion that is not owed, or finds no command EXECUTING, leaves the flag word. -/
theorem exec_arithmeticCompletion_flags {s t : State} (h : exec .arithmeticCompletion s = .next t)
    (hs : s.owed = false ∨ isExecuting s.seq = false) : t.flags = s.flags := by
  rcases execArithmeticCompletion_cases h with ⟨x, r, -, -, hseq, rfl⟩ | rfl
  · have ho : s.owed = false := hs.resolve_right (by rw [hseq]; exact nofun)
    rw [arithDone_flags]
    exact finishCommand_flags_silent (s := s.withEntries (opWrites x s.entries).2) ho r _
  · rfl

/-- Settles O7: the resets, every row but the completion by the lemma of its operation, and the completion by its record. -/
theorem flagWordChanges : Obligations.FlagWordChanges := by
  intro c s t h
  refine ⟨exec_resets_flags h, exec_flags h, ?_, ?_, ?_⟩
  · rintro rfl ho
    exact exec_arithmeticCompletion_flags h (.inl ho)
  · rintro rfl hs
    exact exec_arithmeticCompletion_flags h (.inr hs)
  · rintro x r rfl ho hs hop hx hside hrestore
    cases h.symm.trans (exec_arithmeticCompletion hs hx (isArith_of_side hside hrestore))
    rw [arithDone_flags]
    exact finishCommand_flags_owed (s := s.withEntries (opWrites x s.entries).2) ho hop _

end Sys2Proof.Machine
end

section
/-! ### A take from the queue, and the pop of the completion ring (R96, R99, R100, R103) -/

namespace Sys2Proof.Machine

open Sys2Proof.Safety

/-! #### The head of the queue removed (R96, R105) -/

theorem hasCommand_of_inHand {s : State} {q : SeqState} (hs : s.seq = q) (hq : inHand q = none) :
    hasCommand s = false := by
  unfold hasCommand
  rw [hs, hq]
  rfl

theorem beginTake_nil {s : State} (hq : s.cmdQueue = []) :
    beginTake s = (s.withCmdQueue s.cmdQueue.tail).withOwed true := by
  rw [beginTake_last (by rw [hq]; exact Nat.zero_le 1), hq]
  rfl

theorem beginTake_cons {s : State} (hq : s.cmdQueue ≠ []) : beginTake s = (popQueue s).withOwed true := by
  unfold beginTake
  split
  · exact absurd ‹_› hq
  · rfl

/-- R105: below 16 records SPACE stays as it is. -/
theorem beginTake_quiet {s : State} (h : s.cmdQueue.length ≠ 16) :
    beginTake s = (s.withCmdQueue s.cmdQueue.tail).withOwed true := by
  by_cases hq : s.cmdQueue = []
  · exact beginTake_nil hq
  · obtain ⟨hfull, -⟩ | ⟨-, hpop⟩ := popQueue_cases s
    · exact absurd hfull h
    · rw [beginTake_cons hq, hpop]

/-- R105: SPACE is set by the take from a full queue. -/
theorem beginTake_full {s : State} (h : s.cmdQueue.length = 16) :
    beginTake s = (setSpace (s.withCmdQueue s.cmdQueue.tail)).withOwed true := by
  have hq : s.cmdQueue ≠ [] := List.ne_nil_of_length_pos (by omega)
  obtain ⟨-, hpop⟩ | ⟨hfull, -⟩ := popQueue_cases s
  · rw [beginTake_cons hq, hpop]
  · exact absurd h hfull

/-! #### The take rows (R96, R99; log 3) -/

theorem exec_takeRow_refused {op : Opcode} {o : Operands} {s : State} (h : canTake (recordOf op o) s = false) :
    exec (takeRow op o) s = .next s := by
  rw [exec_takeRow, takeStep_eq, h]
  rfl

theorem exec_takeRow_taken {op : Opcode} {o : Operands} {s : State} (h : canTake (recordOf op o) s = true) :
    exec (takeRow op o) s = .next (handOn true (take op o (beginTake s))) := by
  rw [exec_takeRow, takeStep_eq, if_pos h]

/-- Settles O38: the two ways of a take row, and the two ways of the queue's head. -/
theorem takeThenPassOn : Obligations.TakeThenPassOn := by
  intro op o s
  refine ⟨exec_takeRow_refused, fun hcan hlen => ?_, fun hcan hfull => ?_⟩
  · rw [exec_takeRow_taken hcan, beginTake_quiet (by omega)]
    rfl
  · rw [exec_takeRow_taken hcan, beginTake_full hfull]
    rfl

/-! #### The pop of the completion ring (R100, R103) -/

theorem exec_comppop (v : Byte) {s : State} (hr : s.rstn = true) :
    exec (.comppop v) s = .next (popRing (phaseToState s)) := congrArg _ (if_pos hr)

theorem popRing_cons {s : State} {c : Completion} {rest : List Completion} (h : s.ring = c :: rest) :
    popRing s = handOn false (s.withRing rest) := by
  unfold popRing
  rw [h]
  rfl

/-- R96, R99: while the ring has room the sequencer takes the head of the queue, and the tests follow again. -/
theorem passOn_takes_head (e : Bool) {s : State} (hp : s.batch.phase ≠ .unwinding) {r : CmdRec} {q : List CmdRec}
    (hq : s.cmdQueue = r :: q) (hroom : ringFull s = false) {op : Opcode} (hop : opcodeOf r.code = some op) :
    passOn e s = handOn true (take op r.ops (beginTake s)) := by
  have hqueue : (take op r.ops (beginTake s)).cmdQueue = q := by
    obtain ⟨f, hbegin⟩ := beginTake_eq s
    rw [take_cmdQueue, hbegin]
    exact congrArg List.tail hq
  have hbegin : beginTake s = (popQueue s).withOwed true := beginTake_cons (by rw [hq]; exact List.cons_ne_nil r q)
  unfold passOn passOnFor handOn passOn
  rw [if_neg hp, hqueue, hq]
  dsimp only
  rw [hroom, if_neg Bool.false_ne_true, hbegin]
  unfold takeRecord
  rw [hop]
  rfl

/-- R96: a sequencer without a command can take the well-formed head of the queue while the ring has room. -/
theorem canTake_head {s : State} (hr : s.rstn = true) (he : hasCommand s = false) (hroom : ringFull s = false)
    (hp : s.batch.phase ≠ .unwinding) {r : CmdRec} {q : List CmdRec} (hq : s.cmdQueue = r :: q)
    (hwell : malformed r = false) : canTake r s = true := by
  unfold canTake
  rw [hr, he, hroom, bne_iff_ne.mpr hp, hwell, hq]
  exact beq_self_eq_true r

/-- R105: an IDLE sequencer does not enter IDLE again. -/
theorem enterIdle_again {s : State} (hs : s.seq = .idle) : enterIdle false s = s := by
  have hsame : s.withSeq .idle = s := by
    rw [← hs]
    rfl
  unfold enterIdle
  rw [hs, hsame]
  rfl

/-- R99: the tests do nothing to a sequencer that is not STALLED: it holds a command, waits for the unwinding, or has
no record to take. -/
theorem handOn_at_rest {s : State} (hhand : handSound s = true) (hidle : s.seq = .idle → s.cmdQueue = [])
    (hs : s.seq ≠ .stalled) : handOn false s = s := by
  cases hseq : s.seq with
  | stalled => exact absurd hseq hs
  | idle =>
    rw [handOn_empty false (hasCommand_idle hseq)]
    unfold passOn passOnFor
    rw [if_neg (phase_of_rest hhand (.inl hseq)), hidle hseq]
    exact enterIdle_again hseq
  | waiting r => exact handOn_hand false (hasCommand_waiting hseq)
  | executing r => exact handOn_hand false (hasCommand_executing hseq)
  | unwinding a =>
    cases a with
    | some r => exact handOn_hand false (by unfold hasCommand; rw [hseq]; rfl)
    | none =>
      rw [handOn_unwinding_empty false ((handSound_unwinding hseq).mp hhand).1 (hasCommand_of_inHand hseq rfl), ← hseq]
      rfl

/-- R100: a STALLED sequencer with room in the ring takes the head of the queue, as its take row does. -/
theorem handOn_stalled {s : State} (hr : s.rstn = true) (hs : s.seq = .stalled) (hp : s.batch.phase ≠ .unwinding)
    (hroom : ringFull s = false) {r : CmdRec} {q : List CmdRec} (hq : s.cmdQueue = r :: q) (hwell : malformed r = false)
    {op : Opcode} (hop : opcodeOf r.code = some op) : .next (handOn false s) = exec (takeRow op r.ops) s := by
  have he := hasCommand_of_inHand hs rfl
  rw [exec_takeRow_taken (by rw [recordOf_ops hop]; exact canTake_head hr he hroom hp hq hwell), handOn_empty false he,
    passOn_takes_head false hp hq hroom hop]

/-- R103: the head of the ring removed by a host access. -/
def ringPopped (rest : List Completion) (s : State) : State := (phaseToState s).withRing rest

/-- Settles O51: behind the pop of a head the sequencer's tests, by whether it is STALLED. -/
theorem completionPop : Obligations.CompletionPop := by
  intro v s hi hr
  rw [exec_comppop v hr]
  refine ⟨fun hnil => ?_, fun c rest hring => ⟨fun hs => ?_, fun r q op hs hq hop => ?_⟩⟩
  · unfold popRing
    rw [show (phaseToState s).ring = [] from hnil]
    rfl
  · rw [popRing_cons (s := phaseToState s) hring]
    exact congrArg _ (handOn_at_rest (s := ringPopped rest s) hi.sound.hand (queue_nil_of_idle (s := s) hi.rest) hs)
  · have hfull := ring_full_of_stalled hi.rest hs
    rw [hring, List.length_cons] at hfull
    rw [popRing_cons (s := phaseToState s) hring]
    exact handOn_stalled (s := ringPopped rest s) hr hs (phase_of_rest hi.sound.hand (.inr hs))
      (ringFull_eq_false (Nat.lt_of_succ_le hfull.le)) hq (hi.sound.queue.2 r (by rw [hq]; exact List.mem_cons_self)) hop

end Sys2Proof.Machine
end

section
/-! ### The command queue, the completion ring and the event queue keep their order (R93, R102–R104, R140, R142, R144) -/

namespace Sys2Proof.Machine

open Sys2Proof.Safety

set_option Elab.async false

/-! #### What keeps the three queues in order -/

/-- The command queue gives up records from its head only; the ring and the event queue take records at their tails
only. -/
structure FifosKept (s t : State) : Prop where
  cmdQueue : t.cmdQueue <:+ s.cmdQueue
  ring : s.ring <+: t.ring
  events : s.events.records <+: t.events.records

namespace FifosKept

theorem trans {s t u : State} (h : FifosKept s t) (h' : FifosKept t u) : FifosKept s u :=
  ⟨h'.cmdQueue.trans h.cmdQueue, h.ring.trans h'.ring, h.events.trans h'.events⟩

/-- What leaves all three alone. -/
theorem of_eq {s t : State} (cmdQueue : t.cmdQueue = s.cmdQueue := by rfl) (ring : t.ring = s.ring := by rfl)
    (events : t.events = s.events := by rfl) : FifosKept s t :=
  ⟨cmdQueue ▸ List.suffix_refl _, ring ▸ List.prefix_refl _, events ▸ List.prefix_refl _⟩

/-- What at most appends events. -/
theorem of_same {s t : State} (h : SameCore s t) (events : s.events.records <+: t.events.records) : FifosKept s t :=
  ⟨h.cmdQueue ▸ List.suffix_refl _, h.ring ▸ List.prefix_refl _, events⟩

/-- A decision of the arbiter. -/
theorem of_grant {s t : State} (h : GrantKept s t) : FifosKept s t := .of_eq h.cmdQueue h.ring h.events

end FifosKept

/-! #### Events and the engine (R23, R142, R144) -/

/-- R142: an event is placed behind the others, or discarded. -/
theorem appendEvent_fifosKept (b : EventBody) (s : State) : FifosKept s (appendEvent b s) := by
  refine .of_same (appendEvent_sameCore b s) ?_
  rcases appendEvent_cases b s with ⟨-, h⟩ | ⟨-, h⟩ <;> rw [h]
  · exact List.prefix_append _ _
  · exact List.prefix_refl _

theorem appendThreads_fifosKept (threads : List (List EventBody)) (s : State) :
    FifosKept s (appendThreads threads s) :=
  runThreads_keeps appendEvent (FifosKept s) (fun b t h => h.trans (appendEvent_fifosKept b t))
    (fun _ _ h => h.trans .of_eq) threads s .of_eq

theorem arrive_fifosKept (s : State) : FifosKept s (arrive s) := .of_grant (arrive_grantKept s)

theorem arbitrate_fifosKept (s : State) : FifosKept s (arbitrate s) := .of_grant (arbitrate_grantKept s)

theorem schedule_fifosKept (s : State) : FifosKept s (schedule s) := .trans .of_eq (arrive_fifosKept (refreshPostReq s))

theorem unitArrives_fifosKept (ch : Fin 8) (s : State) : FifosKept s (unitArrives ch s) := by
  unfold unitArrives
  dsimp only
  refine FifosKept.trans ?_ (schedule_fifosKept _)
  split
  · exact .trans .of_eq (appendEvent_fifosKept _ _)
  · exact .of_eq

/-! #### The batch unit (R116–R121) -/

theorem beginUnwind_fifosKept (s : State) : FifosKept s (beginUnwind s) := by
  rw [beginUnwind_eq]
  exact .of_eq

theorem openVoid_fifosKept (d : Byte) (s : State) : FifosKept s (openVoid d s) :=
  (appendEvent_fifosKept _ s).trans .of_eq

theorem commitBatch_fifosKept (s : State) : FifosKept s (commitBatch s) := by
  have hclosed : FifosKept s (closeBatch s) := by
    unfold closeBatch
    generalize evaluateAll s.entries (s.batch.undo.reverse.map fun u => u.index) = r
    exact .trans (.trans .of_eq (appendThreads_fifosKept [r.2] (s.withEntries r.1))) .of_eq
  exact hclosed.trans (schedule_fifosKept _)

/-! #### The report link (R165, R171, R173, R174) -/

theorem appendJob_fifosKept (j : Job) (s : State) : FifosKept s (appendJob j s) := by
  rw [appendJob_eq]
  exact .of_eq

theorem tryStart_fifosKept (n : Nat) (s : State) : FifosKept s (tryStart n s) := by
  rw [tryStart_eq]
  exact .of_eq

theorem setFrame_fifosKept (f : Frame) (s : State) : FifosKept s (setFrame f s) := by
  rw [setFrame_eq]
  exact .of_eq

theorem dropHead_fifosKept (k : EventKind) (d : Job → Byte) (l : LinkState) (s : State) :
    FifosKept s (dropHead k d l s) := by
  unfold dropHead
  split
  · exact .trans .of_eq (appendEvent_fifosKept _ _)
  · exact .of_eq

theorem completeFrame_fifosKept (f : Frame) (s : State) : FifosKept s (completeFrame f s) :=
  (dropHead_fifosKept _ _ _ s).trans (tryStart_fifosKept _ _)

theorem frameEnd_fifosKept (s : State) : FifosKept s (frameEnd s) := by
  unfold frameEnd
  split
  · exact completeFrame_fifosKept _ s
  · exact .of_eq

theorem linkTimeout_fifosKept (s : State) : FifosKept s (linkTimeout s) := by
  unfold linkTimeout
  split
  · exact (dropHead_fifosKept _ _ _ s).trans (tryStart_fifosKept _ _)
  · exact .of_eq

theorem fallingEdge_fifosKept (s : State) : FifosKept s (fallingEdge s) := by
  unfold fallingEdge
  split
  · split <;> exact .of_eq
  · split <;> exact .of_eq
  · exact .of_eq

theorem risingEdge_fifosKept (s : State) : FifosKept s (risingEdge s) := by
  unfold risingEdge
  split
  · split <;> exact .of_eq
  · split
    · split
      · exact completeFrame_fifosKept _ s
      · exact .of_eq
    · exact .of_eq
  · exact .of_eq

/-! #### The takes and the sequencer (R96, R99, R102) -/

theorem complete_fifosKept (op : Opcode) (o : Operands) (st : Status) {s u : State} (h : FifosKept s u) :
    FifosKept s (complete op o st u) :=
  h.trans ⟨List.suffix_refl _, List.prefix_append _ _, List.prefix_refl _⟩

theorem arithBody_fifosKept (op : Opcode) (o : Operands) (s : State) : FifosKept s (arithBody op o s) := by
  have hrequest : ∀ u, FifosKept u (requestEngine op o u) := fun u => .trans .of_eq (arrive_fifosKept _)
  unfold arithBody
  split
  · split
    · exact ((complete_fifosKept op o .undoFull .of_eq).trans (openVoid_fifosKept 1 _)).trans (beginUnwind_fifosKept _)
    · exact .trans .of_eq (hrequest _)
  · exact hrequest s

/-- R82–R92: steps 4 and 5 of a take. -/
theorem takeBody_fifosKept (op : Opcode) (o : Operands) (s : State) : FifosKept s (takeBody op o s) := by
  cases op with
  | mark | chanclear | batchOpen | reportPeriodic => exact complete_fifosKept _ o .done .of_eq
  | add | sub | move | negate | clear | compare => exact arithBody_fifosKept _ o s
  | setattr =>
    unfold takeBody setattrBody
    dsimp only
    split <;> exact complete_fifosKept _ o _ .of_eq
  | setthresh =>
    unfold takeBody setthreshBody
    dsimp only
    split
    · exact complete_fifosKept _ o _ .of_eq
    · split <;> exact complete_fifosKept _ o _ .of_eq
  | chanconfig =>
    unfold takeBody chanconfigBody
    dsimp only
    split <;> exact complete_fifosKept _ o _ .of_eq
  | batchCommit => exact complete_fifosKept _ o .done (commitBatch_fifosKept s)
  | batchAbort =>
    unfold takeBody batchAbortBody
    dsimp only
    split
    · exact complete_fifosKept _ o .done .of_eq
    · exact .trans .of_eq (beginUnwind_fifosKept _)
  | report =>
    unfold takeBody reportBody
    dsimp only
    split
    · exact complete_fifosKept _ o _ .of_eq
    · exact complete_fifosKept _ o _ (appendJob_fifosKept _ s)

theorem take_fifosKept (op : Opcode) (o : Operands) (s : State) : FifosKept s (take op o s) := by
  rw [take_eq]
  rcases checked_cases op o (takeBody op o) s with
    ⟨-, -, heq⟩ | ⟨-, -, heq⟩ | ⟨-, -, heq⟩ | ⟨st, -, -, -, heq⟩ | ⟨-, -, -, heq⟩ <;> rw [heq]
  case inr.inr.inr.inr => exact takeBody_fifosKept op o s
  all_goals exact complete_fifosKept op o _ .of_eq

/-- R96: the head of the queue removed. -/
theorem popQueue_fifosKept (s : State) : FifosKept s (popQueue s) := by
  obtain ⟨f, h⟩ := popQueue_eq s
  rw [h]
  exact ⟨List.tail_suffix _, List.prefix_refl _, List.prefix_refl _⟩

theorem takeRecord_fifosKept (r : CmdRec) (s : State) : FifosKept s (takeRecord r s) := by
  unfold takeRecord
  split
  · exact .trans .of_eq (take_fifosKept _ _ _)
  · exact .of_eq

theorem handOn_fifosKept (e : Bool) (s : State) : FifosKept s (handOn e s) := by
  unfold handOn
  split
  · exact .of_eq
  · refine passOnFor_keeps (FifosKept s) (fun t h _ => h.trans .of_eq) (fun e t h _ _ => ?_)
      (fun t h _ _ _ => h.trans .of_eq)
      (fun r q t h _ _ _ => (h.trans (popQueue_fifosKept t)).trans (takeRecord_fifosKept r _)) _ e s .of_eq
    obtain ⟨f, hf⟩ := enterIdle_eq e t
    rw [hf]
    exact h.trans .of_eq

theorem recheck_fifosKept (s : State) : FifosKept s (recheck s) := handOn_fifosKept false s

theorem resume_fifosKept (s : State) : FifosKept s (resume s) := by
  rw [resume_eq]
  refine FifosKept.trans ?_ (handOn_fifosKept true _)
  split
  · exact beginUnwind_fifosKept s
  · exact .of_eq

theorem beginTake_fifosKept (s : State) : FifosKept s (beginTake s) := by
  obtain ⟨f, h⟩ := beginTake_eq s
  rw [h]
  exact ⟨List.tail_suffix _, List.prefix_refl _, List.prefix_refl _⟩

theorem takeStep_fifosKept (op : Opcode) (o : Operands) (s : State) : FifosKept s (takeStep op o (take op o) s) := by
  rw [takeStep_eq]
  split
  · exact ((beginTake_fifosKept s).trans (take_fifosKept op o _)).trans (handOn_fifosKept true _)
  · exact .of_eq

/-! #### The engine completions (R29, R98, R101, R118) -/

theorem finishCommand_fifosKept (r : CmdRec) (f : FlagWord) (s : State) : FifosKept s (finishCommand r f s) := by
  unfold finishCommand
  split
  · split
    · exact complete_fifosKept _ _ _ .of_eq
    · exact .of_eq
  · exact .of_eq

theorem finishAbort_fifosKept (s : State) : FifosKept s (finishAbort s) := by
  unfold finishAbort
  split
  · exact (finishCommand_fifosKept _ _ s).trans .of_eq
  · exact .of_eq

/-- R37: the engine freed, and the waiting requests decided. -/
theorem arbitrate_freed_fifosKept (s : State) : FifosKept s (arbitrate (freeEngine s)) :=
  .trans .of_eq (arbitrate_fifosKept _)

theorem postDone_fifosKept (x : Operation) (s : State) : FifosKept s (postDone x s) :=
  .trans (.trans .of_eq (appendThreads_fifosKept _ _)) (arbitrate_freed_fifosKept _)

theorem memberDone_fifosKept (ws : List Written) (s : State) : FifosKept s (memberDone ws s) := by
  unfold memberDone
  dsimp only
  split
  · exact .trans .of_eq (openVoid_fifosKept 2 _)
  · exact .of_eq

theorem plainDone_fifosKept (ws : List Written) (s : State) : FifosKept s (plainDone ws s) :=
  .trans .of_eq (appendThreads_fifosKept _ _)

theorem arithDone_fifosKept (r : CmdRec) (x : Operation) (s : State) : FifosKept s (arithDone r x s) := by
  have hfinish : ∀ es f, FifosKept s ((finishCommand r f (s.withEntries es)).withSeq .stalled) := fun es f =>
    .trans (.trans .of_eq (finishCommand_fifosKept r f (s.withEntries es))) .of_eq
  unfold arithDone
  dsimp only
  refine FifosKept.trans (.trans ?_ (arbitrate_freed_fifosKept _)) (resume_fifosKept _)
  split
  · exact (hfinish _ _).trans (memberDone_fifosKept _ _)
  · exact (hfinish _ _).trans (plainDone_fifosKept _ _)

theorem restoreDone_fifosKept (x : Operation) (s : State) : FifosKept s (restoreDone x s) := by
  have hend : ∀ {t}, FifosKept s t → FifosKept s (resume (arbitrate (freeEngine (refreshPostReq t)))) := fun h =>
    (h.trans (.trans .of_eq (arbitrate_freed_fifosKept _))).trans (resume_fifosKept _)
  unfold restoreDone
  dsimp only
  split
  · exact hend (.trans .of_eq (finishAbort_fifosKept _))
  · exact hend .of_eq

/-! #### The events of an instant (R148, R150) -/

theorem batchExpiry_fifosKept (s : State) : FifosKept s (batchExpiry s) := by
  unfold batchExpiry
  split
  · exact .of_eq
  · exact (openVoid_fifosKept 2 s).trans (resume_fifosKept _)

theorem intervalReload_fifosKept (s : State) : FifosKept s (intervalReload s) := by
  unfold intervalReload periodicJob
  split
  · exact .of_eq
  · split
    · exact .trans .of_eq (appendEvent_fifosKept _ _)
    · exact .trans .of_eq (appendJob_fifosKept _ _)

theorem intervalEvent_fifosKept (s : State) : FifosKept s (intervalEvent s) := by
  unfold intervalEvent
  split
  · exact appendEvent_fifosKept _ s
  · exact .of_eq

theorem runTimed_fifosKept (e : TimedEvent) (s : State) : FifosKept s (runTimed e s) := by
  cases e with
  | unit ch => exact unitArrives_fifosKept ch s
  | frameEnd => exact frameEnd_fifosKept s
  | batchExpiry => exact batchExpiry_fifosKept s
  | intervalReload => exact intervalReload_fifosKept s
  | intervalEvent => exact intervalEvent_fifosKept s
  | linkTimeout => exact linkTimeout_fifosKept s

theorem runThreads_fifosKept (threads : List (List TimedEvent)) (s : State) :
    FifosKept s (runThreads runTimed threads s) :=
  runThreads_keeps runTimed (FifosKept s) (fun e t h => h.trans (runTimed_fifosKept e t)) (fun _ _ h => h.trans .of_eq)
    threads s .of_eq

theorem timeoutLower_fifosKept (s : State) : FifosKept s (timeoutLower s) := by
  unfold timeoutLower
  split
  · split
    · split
      · exact .of_eq
      · exact setFrame_fifosKept _ s
    · exact .of_eq
  · exact .of_eq

theorem deliverTick_fifosKept (others : List (List TimedEvent)) (s : State) : FifosKept s (deliverTick others s) :=
  .trans (.trans .of_eq (timeoutLower_fifosKept _)) (runThreads_fifosKept _ _)

theorem drivenAdvance_fifosKept (s : State) : FifosKept s (drivenAdvance s) := by
  unfold drivenAdvance
  split
  · split
    · exact .of_eq
    · exact setFrame_fifosKept _ s
  · exact .of_eq

theorem execSample_fifosKept {levels : Byte} {s t : State} (h : execSample levels s = .next t) : FifosKept s t := by
  have hsampled : FifosKept s (sampledState levels s) := (drivenAdvance_fifosKept s).trans .of_eq
  rw [execSample_eq] at h
  cases h
  split
  · exact hsampled.trans (deliverTick_fifosKept _ _)
  · exact hsampled.trans (runThreads_fifosKept _ _)

theorem execUnitArrival_fifosKept {ch : Fin 8} {s t : State} (h : execUnitArrival ch s = .next t) : FifosKept s t := by
  cases h
  split
  · exact .trans .of_eq (unitArrives_fifosKept ch _)
  · exact .of_eq

/-! #### The window accesses that reset nothing, queue nothing and pop nothing (R178) -/

theorem writeLinkctrl_fifosKept (v : Byte) (s : State) : FifosKept s (writeLinkctrl v s) := by
  rcases writeLinkctrl_cases v s with ⟨l, h⟩ | h <;> rw [h]
  · exact .of_eq
  · exact .trans .of_eq (dropHead_fifosKept _ _ _ _)

theorem readReg_fifosKept (a : Nat) (s : State) : FifosKept s (readReg a s) :=
  readReg_cases (P := FifosKept s) .of_eq (fun _ _ _ _ _ _ => .of_eq) a

/-- R178: a write of any address but those of the submission and the pops, without a reset. -/
theorem writeReg_fifosKept {a : Nat} {v : Byte} (s : State) (hreset : a = 0x01 → v.getLsbD 0 = false)
    (hsubmit : a ≠ 0x10) (hring : a ≠ 0x18) (hevents : a ≠ 0x1E) : FifosKept s (writeReg a v s) := by
  have hcontrol : a = 0x01 → FifosKept s (writeControl v s) := fun ha => by
    unfold writeControl
    rw [hreset ha]
    exact .of_eq
  unfold writeReg
  rw [if_neg hsubmit, if_neg hring, if_neg hevents]
  exact iteInduction hcontrol fun _ =>
    iteInduction (fun _ => .of_eq) fun _ =>
    iteInduction (fun _ => .of_eq) fun _ =>
    iteInduction (fun _ => .of_eq) fun _ =>
    iteInduction (fun _ => .of_eq) fun _ =>
    iteInduction (fun _ => .of_eq) fun _ =>
    iteInduction (fun _ => .of_eq) fun _ =>
    iteInduction (fun _ => .of_eq) fun _ =>
    iteInduction (fun _ => .of_eq) fun _ =>
    iteInduction (fun _ => .of_eq) fun _ =>
    iteInduction (fun _ => .of_eq) fun _ =>
    iteInduction (fun _ => writeLinkctrl_fifosKept v s) fun _ =>
    iteInduction (fun _ => .of_eq) fun _ => .of_eq

/-! #### Submissions and pops (R70, R103, R143) -/

/-- The order that a command keeps: an accepted submission at the tail of the command queue, a pop at the head of the
ring or of the event queue. -/
def FifosOrdered (c : Instr) (s t : State) : Prop :=
  t.cmdQueue <:+ s.cmdQueue
      ++ (if writesAt 0x10 c s = true ∧ submitVerdict s = .accepted then [s.window.staging] else [])
    ∧ (if writesAt 0x18 c s = true then s.ring.tail else s.ring) <+: t.ring
    ∧ (if writesAt 0x1E c s = true then s.events.records.tail else s.events.records) <+: t.events.records

/-- A command that is none of the three writes. -/
theorem FifosKept.ordered {c : Instr} {s t : State} (h : FifosKept s t) (hsubmit : writesAt 0x10 c s = false)
    (hring : writesAt 0x18 c s = false) (hevents : writesAt 0x1E c s = false) : FifosOrdered c s t := by
  unfold FifosOrdered
  rw [hsubmit, hring, hevents]
  refine ⟨?_, h.ring, h.events⟩
  rw [if_neg (fun hx => Bool.noConfusion hx.1), List.append_nil]
  exact h.cmdQueue

theorem writesAt_of_no_write {c : Instr} (h : windowWrite c = none) (a : Addr) (s : State) :
    writesAt a c s = false := by
  unfold writesAt
  rw [h]
  exact Bool.and_false _

theorem writesAt_low {s : State} (h : s.rstn = false) (a : Addr) (c : Instr) : writesAt a c s = false := by
  unfold writesAt
  rw [h]
  rfl

theorem writesAt_high {c : Instr} {a b : Addr} {v : Byte} {s : State} (hw : windowWrite c = some (a, v))
    (hr : s.rstn = true) : writesAt b c s = (a == b) := by
  unfold writesAt
  rw [hw, hr]
  rfl

theorem FifosKept.ordered_of_no_write {c : Instr} {s t : State} (h : FifosKept s t) (hw : windowWrite c = none) :
    FifosOrdered c s t :=
  h.ordered (writesAt_of_no_write hw _ s) (writesAt_of_no_write hw _ s) (writesAt_of_no_write hw _ s)

/-- R70: an accepted record joins the tail, before the sequencer takes anything from the head. -/
theorem submitWrite_fifosKept (s : State) :
    FifosKept (s.withCmdQueue (s.cmdQueue ++ if submitVerdict s = .accepted then [s.window.staging] else []))
      (submitWrite s) := by
  unfold submitWrite
  by_cases hv : submitVerdict s = .accepted
  · rw [if_pos hv, if_pos hv]
    exact .trans .of_eq (recheck_fifosKept _)
  · rw [if_neg hv, if_neg hv, List.append_nil]
    exact .of_eq

/-- R103: a pop removes the head of the ring, before a STALLED sequencer takes. -/
theorem popRing_fifosKept (s : State) : FifosKept (s.withRing s.ring.tail) (popRing s) := by
  cases hring : s.ring with
  | nil =>
    unfold popRing
    rw [hring]
    exact .of_eq rfl hring rfl
  | cons c rest =>
    rw [popRing_cons hring]
    exact handOn_fifosKept false _

/-- R143: a pop removes the head of the event queue; a LOST record takes the freed place at the tail. -/
theorem popEvents_records (s : State) : s.events.records.tail <+: (popEvents s).events.records := by
  unfold popEvents
  split
  · rename_i hnil
    rw [hnil]
    exact List.prefix_refl _
  · rename_i e rest hcons
    rw [hcons]
    dsimp only
    split
    · exact List.prefix_refl _
    · exact List.prefix_append _ _

/-! #### Every command -/

theorem windowWrite_takeRow (op : Opcode) (o : Operands) : windowWrite (takeRow op o) = none := by
  cases op <;> rfl

theorem windowWrite_of_read {c : Instr} {a : Addr} (h : windowRead c = some a) : windowWrite c = none := by
  cases c <;> cases h <;> rfl

section

variable {c : Instr} {a : Addr} {v : Byte} {s : State} (hw : windowWrite c = some (a, v)) (hr : s.rstn = true)

include hw hr

theorem submitWrite_ordered (ha : a = 0x10) : FifosOrdered c s (submitWrite (phaseToState s)) := by
  subst ha
  obtain ⟨hqueue, hring, hevents⟩ := submitWrite_fifosKept (phaseToState s)
  unfold FifosOrdered
  rw [writesAt_high hw hr, writesAt_high hw hr, writesAt_high hw hr, beq_self_eq_true]
  simp only [true_and]
  exact ⟨hqueue, hring, hevents⟩

theorem popRing_ordered (ha : a = 0x18) : FifosOrdered c s (popRing (phaseToState s)) := by
  subst ha
  obtain ⟨hqueue, hring, hevents⟩ := popRing_fifosKept (phaseToState s)
  unfold FifosOrdered
  rw [writesAt_high hw hr, writesAt_high hw hr, writesAt_high hw hr]
  exact ⟨(List.append_nil s.cmdQueue).symm ▸ hqueue, hring, hevents⟩

theorem popEvents_ordered (ha : a = 0x1E) : FifosOrdered c s (popEvents (phaseToState s)) := by
  subst ha
  have hsame := (popEvents_outside (phaseToState s)).toSameCore
  unfold FifosOrdered
  rw [writesAt_high hw hr, writesAt_high hw hr, writesAt_high hw hr, hsame.cmdQueue, hsame.ring]
  exact ⟨(List.append_nil s.cmdQueue).symm ▸ List.suffix_refl _, List.prefix_refl _, popEvents_records (phaseToState s)⟩

/-- R178: a window write that resets nothing, by its address. -/
theorem writeReg_ordered (hreset : a = 0x01 → v.getLsbD 0 = false) :
    FifosOrdered c s (writeReg a.toNat v (phaseToState s)) := by
  have hplain : ∀ b : Addr, a ≠ b → writesAt b c s = false := fun b hb =>
    (writesAt_high hw hr).trans (beq_false_of_ne hb)
  have hnat : ∀ b : Addr, a ≠ b → a.toNat ≠ b.toNat := fun b hb => mt BitVec.eq_of_toNat_eq hb
  by_cases hsubmit : a = 0x10
  · have heq : writeReg a.toNat v (phaseToState s) = submitWrite (phaseToState s) := by rw [hsubmit]; rfl
    exact heq ▸ submitWrite_ordered hw hr hsubmit
  by_cases hring : a = 0x18
  · have heq : writeReg a.toNat v (phaseToState s) = popRing (phaseToState s) := by rw [hring]; rfl
    exact heq ▸ popRing_ordered hw hr hring
  by_cases hevents : a = 0x1E
  · have heq : writeReg a.toNat v (phaseToState s) = popEvents (phaseToState s) := by rw [hevents]; rfl
    exact heq ▸ popEvents_ordered hw hr hevents
  have hkept := writeReg_fifosKept (phaseToState s) (fun ha => hreset (BitVec.eq_of_toNat_eq ha)) (hnat 0x10 hsubmit)
    (hnat 0x18 hring) (hnat 0x1E hevents)
  exact (FifosKept.trans .of_eq hkept).ordered (hplain _ hsubmit) (hplain _ hring) (hplain _ hevents)

end

/-- R192: a window write that resets nothing; while RSTn is low it is ignored. -/
theorem hostWrite_ordered {c : Instr} {a : Addr} {v : Byte} {s : State} (hw : windowWrite c = some (a, v))
    (hreset : s.rstn = true → a = 0x01 → v.getLsbD 0 = false) :
    FifosOrdered c s (hostWrite (writeReg a.toNat v) s) := by
  unfold hostWrite
  split
  · rename_i hr
    exact writeReg_ordered hw hr (hreset hr)
  · rename_i hr
    have hlow := writesAt_low (Bool.eq_false_iff.mpr hr)
    exact FifosKept.ordered .of_eq (hlow _ c) (hlow _ c) (hlow _ c)

/-- R93, R102, R140: a command that resets nothing keeps the three orders. -/
theorem exec_ordered {c : Instr} {s t : State} (h : exec c s = .next t) : resets c s = false → FifosOrdered c s t :=
  exec_rows (P := fun c t => resets c s = false → FifosOrdered c s t)
    (powerOn := fun hc => absurd rfl (resets_eq_false hc).1)
    (reset := fun hc => by
      split
      · rename_i hr
        exact absurd rfl ((resets_eq_false hc).2 hr).1
      · exact FifosKept.ordered_of_no_write .of_eq rfl)
    (rise := fun _ => FifosKept.ordered_of_no_write .of_eq rfl)
    (sample := fun _ _ ht _ => (execSample_fifosKept ht).ordered_of_no_write rfl)
    (unit := fun _ _ ht _ => (execUnitArrival_fifosKept ht).ordered_of_no_write rfl)
    (tick := fun _ => (FifosKept.trans .of_eq (deliverTick_fifosKept [] _)).ordered_of_no_write rfl)
    (grant := fun _ => (arrive_fifosKept s).ordered_of_no_write rfl)
    (post := fun t ht _ => by
      refine FifosKept.ordered_of_no_write ?_ rfl
      rcases execPostCompletion_cases ht with ⟨_, _, _, _, -, rfl⟩ | rfl
      · exact postDone_fifosKept _ s
      · exact .of_eq)
    (arith := fun t ht _ => by
      refine FifosKept.ordered_of_no_write ?_ rfl
      rcases execArithmeticCompletion_cases ht with ⟨_, _, -, -, -, rfl⟩ | rfl
      · exact arithDone_fifosKept _ _ s
      · exact .of_eq)
    (restore := fun t ht _ => by
      refine FifosKept.ordered_of_no_write ?_ rfl
      rcases execRestoreCompletion_cases ht with ⟨_, _, -, rfl⟩ | rfl
      · exact restoreDone_fifosKept _ s
      · exact .of_eq)
    (takes := fun op o _ => (takeStep_fifosKept op o s).ordered_of_no_write (windowWrite_takeRow op o))
    (batchTimer := fun _ => (iteInduction (fun _ => batchExpiry_fifosKept s) fun _ => .of_eq :
      FifosKept s _).ordered_of_no_write rfl)
    (interval := fun _ => (iteInduction (fun _ => (intervalReload_fifosKept s).trans (intervalEvent_fifosKept _))
      fun _ => .of_eq : FifosKept s _).ordered_of_no_write rfl)
    (frame := fun _ => (frameEnd_fifosKept s).ordered_of_no_write rfl)
    (timeout := fun _ => (linkTimeout_fifosKept s).ordered_of_no_write rfl)
    (write := fun c a v hw hc => hostWrite_ordered hw fun hr => ((resets_eq_false hc).2 hr).2 a v hw)
    (read := fun _ a ha _ => (readReg_fifosKept a.toNat s).ordered_of_no_write (windowWrite_of_read ha))
    (falling := fun _ => (fallingEdge_fifosKept s).ordered_of_no_write rfl)
    (rising := fun _ => (risingEdge_fifosKept s).ordered_of_no_write rfl) h

/-- Settles O9: every row by the lemma of its operation, and the three writes that queue or pop by their own. -/
theorem fifosKeepOrder : Obligations.FifosKeepOrder := fun _ _ _ h => exec_ordered h

end Sys2Proof.Machine
end

section
/-! ### A millisecond tick and its three consumers (R124, R149, R150, R154, R172) -/

namespace Sys2Proof.Machine

open Sys2Proof.Safety

/-! #### The counts that do not expire -/

/-- R124: a batch timer that does not expire is lowered while it runs. -/
theorem batchLower_of_not_due {b : Batch} (h : batchDue b = false) :
    batchLower b = { b with timer := b.timer.map (fun n => n - 1) } := by
  unfold batchDue at h
  unfold batchLower
  cases ht : b.timer with
  | none => exact congrArg (fun x => { b with timer := x }) ht
  | some n =>
    rw [ht] at h
    exact if_neg (of_decide_eq_false h)

/-- R154: an interval timer that does not expire is lowered while it is counting. -/
theorem intervalLower_of_not_due {t : IntervalTimer} (h : intervalDue t = false) :
    intervalLower t = if t.run = true ∧ t.length ≠ 0 ∧ t.count ≠ 0 then { t with count := t.count - 1 } else t := by
  unfold intervalDue at h
  unfold intervalLower
  simp only [← counting_iff]
  cases hc : counting t with
  | false => rfl
  | true =>
    rw [hc] at h
    rw [bne, show (t.count == 1) = false from h]
    rfl

theorem counting_of_intervalDue {t : IntervalTimer} (h : intervalDue t = true) : counting t = true :=
  (Bool.and_eq_true_iff.mp h).1

/-- R154: the count that expires is not lowered first. -/
theorem intervalLower_of_due {t : IntervalTimer} (h : intervalDue t = true) : intervalLower t = t := by
  obtain ⟨-, hone⟩ := Bool.and_eq_true_iff.mp h
  unfold intervalLower
  rw [bne, hone, Bool.not_true, Bool.and_false]
  rfl

/-- R172: the link with the timeout count of the frame under way lowered, if it runs. -/
def timeoutLowered : LinkState → LinkState
  | .ready f => .ready { f with timeout := f.timeout.map (fun n => n - 1) }
  | .sending f => .sending { f with timeout := f.timeout.map (fun n => n - 1) }
  | l => l

theorem setFrame_self {f : Frame} {s : State} (h : s.link.state.frame = some f) : setFrame f s = s := by
  unfold setFrame
  cases hs : s.link.state with
  | ready g | sending g =>
    rw [hs] at h
    cases h
    dsimp only
    rw [← hs]
    rfl
  | off | idle => rfl

theorem setFrame_timeout {f : Frame} {s : State} (h : s.link.state.frame = some f) :
    setFrame { f with timeout := f.timeout.map (fun n => n - 1) } s
      = s.withLink { s.link with state := timeoutLowered s.link.state } := by
  unfold setFrame
  cases hs : s.link.state with
  | ready g | sending g =>
    rw [hs] at h
    cases h
    rfl
  | off | idle =>
    rw [hs] at h
    cases h

/-- R172: a timeout count that does not expire is lowered while it runs. -/
theorem timeoutLower_of_not_due {s : State} (h : timeoutDue s.link = false) :
    timeoutLower s = s.withLink { s.link with state := timeoutLowered s.link.state } := by
  unfold timeoutDue at h
  unfold timeoutLower
  cases hf : s.link.state.frame with
  | none =>
    dsimp only
    cases hs : s.link.state with
    | ready f | sending f =>
      rw [hs] at hf
      cases hf
    | off | idle => exact congrArg (fun l => s.withLink { s.link with state := l }) hs
  | some f =>
    rw [← setFrame_timeout hf]
    rw [hf] at h
    dsimp only [Option.bind_some] at h ⊢
    cases ht : f.timeout with
    | none => exact (setFrame_self (by rw [hf, Option.map_none, ← ht])).symm
    | some n =>
      rw [ht] at h
      exact if_neg (of_decide_eq_false h)

theorem timeoutLower_interval (s : State) : (timeoutLower s).interval = s.interval := by
  unfold timeoutLower
  split
  · split
    · split
      · rfl
      · rw [setFrame_eq]
    · rfl
  · rfl

/-! #### The expiries of a tick -/

/-- R149: the state in which a tick is delivered. -/
def tickedState (s : State) : State := { s with timebase := endTick s.timebase }

/-- R150: what a tick brings, by which of its three consumers expire. -/
theorem exec_millisecondTick {s : State} {b i l : Bool} (hb : batchDue s.batch = b) (hi : intervalDue s.interval = i)
    (hl : timeoutDue s.link = l) : exec .millisecondTick s
      = .next (runThreads runTimed
          [if b then [.batchExpiry] else [],
            if i then .intervalReload :: (if s.interval.evEnable then [.intervalEvent] else []) else [],
            if l then [.linkTimeout] else []]
          (lowerCounts (tickedState s))) := by
  subst hb hi hl
  rfl

theorem endTick_eq (t : Timebase) :
    endTick t = if t.tick < 124 then ⟨(t.tick + 1) * 4096 / 125, t.tick + 1⟩ else ⟨0, 0⟩ := rfl

theorem intervalReload_evEnable (s : State) : (intervalReload s).interval.evEnable = s.interval.evEnable := by
  obtain ⟨q, w, h⟩ := appendAll_eq (skippedEvents (reloadedState s)) (reloadedState s)
  have hreload : (intervalReload s).interval = (reloadedState s).interval := by
    rw [show intervalReload s = periodicJob (reloadedState s) from rfl, periodicJob_eq, h]
    rfl
  rw [hreload]
  rfl

/-- R155: an interval expiry's two events, the second only when INTERVAL is enabled, are the whole expiry. -/
theorem runTimed_intervalExpiry (s : State) :
    (TimedEvent.intervalReload :: if s.interval.evEnable then [.intervalEvent] else []).foldl (fun s e => runTimed e s) s
      = intervalEvent (intervalReload s) := by
  cases he : s.interval.evEnable with
  | true => rfl
  | false => exact (if_neg (by rw [intervalReload_evEnable, he]; exact Bool.noConfusion)).symm

/-- R124, R126: the tick that brings the batch timer's expiry. -/
theorem exec_tick_batchExpiry {s : State} (hb : batchDue s.batch = true) (hi : intervalDue s.interval = false)
    (hl : timeoutDue s.link = false) :
    exec .millisecondTick s = exec .batchTimerExpiry (lowerCounts (tickedState s)) := by
  have hsome : (lowerCounts (tickedState s)).batch.timer.isSome = true := by
    rw [lowerCounts_batch, (batchLower_timer _).2]
    exact batchDue_timer hb
  rw [exec_millisecondTick hb hi hl, runThreads_one runTimed _ [.batchExpiry] _ rfl]
  exact congrArg _ (if_pos hsome).symm

/-- R154, R155: the tick that brings the interval expiry. -/
theorem exec_tick_intervalExpiry {s : State} (hb : batchDue s.batch = false) (hi : intervalDue s.interval = true)
    (hl : timeoutDue s.link = false) :
    exec .millisecondTick s = exec .intervalExpiry (lowerCounts (tickedState s)) := by
  have hkept : (lowerCounts (tickedState s)).interval = s.interval :=
    (timeoutLower_interval _).trans (intervalLower_of_due hi)
  have hcounting : counting (lowerCounts (tickedState s)).interval = true := by
    rw [hkept]
    exact counting_of_intervalDue hi
  rw [exec_millisecondTick hb hi hl, runThreads_one runTimed _ _ _ rfl, ← hkept]
  exact congrArg _ ((runTimed_intervalExpiry _).trans (if_pos hcounting).symm)

/-- R172, R173: the tick that brings the link timeout. -/
theorem exec_tick_linkTimeout {s : State} (hb : batchDue s.batch = false) (hi : intervalDue s.interval = false)
    (hl : timeoutDue s.link = true) :
    exec .millisecondTick s = exec .linkTimeout (lowerCounts (tickedState s)) := by
  rw [exec_millisecondTick hb hi hl, runThreads_one runTimed _ [.linkTimeout] _ rfl]
  rfl

/-- R150: the tick that brings no expiry. -/
theorem exec_tick_quiet {s : State} (hb : batchDue s.batch = false) (hi : intervalDue s.interval = false)
    (hl : timeoutDue s.link = false) : exec .millisecondTick s = .next (lowerCounts (tickedState s)) := by
  rw [exec_millisecondTick hb hi hl]
  exact congrArg _ (runThreads_idle _ _ _ (by simp))

theorem lowerCounts_of_not_due {s : State} (hb : batchDue s.batch = false) (hl : timeoutDue s.link = false) :
    lowerCounts s = { s with
      batch := { s.batch with timer := s.batch.timer.map (fun n => n - 1) }
      interval := intervalLower s.interval
      link := { s.link with state := timeoutLowered s.link.state } } := by
  unfold lowerCounts
  rw [timeoutLower_of_not_due (s := (s.withBatch (batchLower s.batch)).withInterval (intervalLower s.interval)) hl,
    batchLower_of_not_due hb]
  rfl

/-- Settles O24: no other thread has an event, so the expiry's own events are run in their order. -/
theorem tickBringsOneExpiry : Obligations.TickBringsOneExpiry :=
  fun _ => ⟨exec_tick_batchExpiry, exec_tick_intervalExpiry, exec_tick_linkTimeout⟩

/-- Settles O23: no thread has an event, and each count that runs is lowered. -/
theorem tickLowersCounts : Obligations.TickLowersCounts := by
  intro s hb hi hl
  have hlower := lowerCounts_of_not_due (s := tickedState s) hb hl
  refine ⟨_, exec_tick_quiet hb hi hl, ?_⟩
  rw [hlower]
  exact ⟨rfl, endTick_eq s.timebase, rfl, intervalLower_of_not_due hi, rfl⟩

end Sys2Proof.Machine
end

section
/-! ### The batch timer's expiry (R117, R121, R125, R126) -/

namespace Sys2Proof.Machine

open Sys2Proof.Safety

/-! #### The void opened, and the unwinder's first request -/

/-- R121: the batch UNWINDING with cause VOID and the void's event appended; the window holds what EVT has become. -/
def voidOpened (d : Byte) (w : Window) (s : State) : State :=
  { s with
    events := (appendEvent ⟨.batchVoid, 0, d⟩ s).events, window := w
    batch := { s.batch with phase := .unwinding, cause := .void, timer := none } }

theorem openVoid_opened (d : Byte) (s : State) : ∃ w, openVoid d s = voidOpened d w s := by
  obtain ⟨q, f, h⟩ := appendEvent_eq ⟨.batchVoid, 0, d⟩ s
  refine ⟨{ s.window with irqFlag := f }, ?_⟩
  unfold openVoid voidOpened
  rw [h]
  rfl

theorem beginUnwind_empty {s : State} (h : s.batch.undo = []) : beginUnwind s = endUnwind s := by
  unfold beginUnwind
  rw [h]

theorem beginUnwind_records {s : State} {u : UndoRec} {us : List UndoRec} (h : s.batch.undo = u :: us) :
    beginUnwind s = arrive (setCmdReq true s) := by
  unfold beginUnwind
  rw [h]

/-- R23, R118: the unwinder's request at a FREE engine, where no post competes with it, starts the newest record's restore;
at a busy one it waits. -/
theorem arrive_unwinder {s : State} (hphase : s.batch.phase = .unwinding) {u : UndoRec} {us : List UndoRec}
    (hu : s.batch.undo = u :: us) (hquiet : engineFree s = true → s.engine.postReq = false) :
    ∃ e, arrive (setCmdReq true s) = s.withEngine e
      ∧ (engineFree s = true → e.inFlight = some ⟨.restore u.prior, u.index⟩)
      ∧ (engineFree s = false → e = { s.engine with cmdReq := true }) := by
  cases hf : engineFree s with
  | true =>
    have hgranted := (arrive_free (setCmdReq true s) hf).trans
      ((arbitrate_command (s := setCmdReq true s) rfl (.inl (hquiet hf))).trans
        (grantCommand_restoring (s := setCmdReq true s) hphase hu))
    exact ⟨_, hgranted, fun _ => rfl, nofun⟩
  | false => exact ⟨_, arrive_busy (setCmdReq true s) hf, nofun, fun _ => rfl⟩

/-! #### The expiry with no command of the batch in flight -/

/-- R125: the void is opened and its unwinding begun, and then the sequencer passes on. -/
theorem batchExpiry_voids {s : State} (hm : s.batch.member = false) :
    batchExpiry s = handOn true (beginUnwind (openVoid 2 s)) := by
  unfold batchExpiry
  rw [hm, if_neg Bool.false_ne_true, resume_eq, if_pos (openVoid_phase 2 s)]

section

variable {s : State} (h : CoreInv s) (ht : s.batch.timer.isSome = true) (hm : s.batch.member = false)

include h ht hm

/-- R113: a timer runs only in OPEN, where a command in hand would belong to the batch. -/
theorem CoreInv.empty_at_expiry : hasCommand s = false := by
  obtain ⟨-, hopened, -⟩ := h.sound.batch
  exact h.empty_of_opened (hopened ht) hm

/-- R117, R125: with records to undo the unwinder asks for the newest one's restore, which a FREE engine starts. -/
theorem batchExpiry_unwinds {u : UndoRec} {us : List UndoRec} (hu : s.batch.undo = u :: us) : ∃ w e,
    batchExpiry s = ((voidOpened 2 w s).withEngine e).withSeq (.unwinding none)
      ∧ (engineFree s = true → e.inFlight = some ⟨.restore u.prior, u.index⟩)
      ∧ (engineFree s = false → e = { s.engine with cmdReq := true }) := by
  obtain ⟨-, -, hrest⟩ := h.requests
  obtain ⟨w, hv⟩ := openVoid_opened 2 s
  obtain ⟨e, harrive, hfree, hbusy⟩ := arrive_unwinder (s := voidOpened 2 w s) rfl hu fun hf => (hrest hf).1
  refine ⟨w, e, ?_, hfree, hbusy⟩
  rw [batchExpiry_voids hm, hv, beginUnwind_records (s := voidOpened 2 w s) hu, harrive]
  exact handOn_unwinding_empty true (s := (voidOpened 2 w s).withEngine e) rfl (h.empty_at_expiry ht hm)

/-- R119, R125: on an empty stack the void is there at once, and with nothing queued the sequencer is IDLE. -/
theorem batchExpiry_ends (hu : s.batch.undo = []) (hq : s.cmdQueue = []) : ∃ w,
    batchExpiry s = setQuiet ((endUnwind (voidOpened 2 w s)).withSeq .idle) := by
  obtain ⟨w, hv⟩ := openVoid_opened 2 s
  refine ⟨w, ?_⟩
  rw [batchExpiry_voids hm, hv, beginUnwind_empty (s := voidOpened 2 w s) hu]
  exact handOn_idle (s := endUnwind (voidOpened 2 w s)) hq (h.empty_at_expiry ht hm) nofun

end

/-- R125: the expiry as a command is the batch unit's expiry while the timer runs (log 2). -/
theorem exec_batchTimerExpiry {s : State} (ht : s.batch.timer.isSome = true) :
    exec .batchTimerExpiry s = .next (batchExpiry s) := congrArg _ (if_pos ht)

theorem exec_batchTimerExpiry_stopped {s : State} (ht : s.batch.timer = none) :
    exec .batchTimerExpiry s = .next s := congrArg _ (if_neg (by rw [ht]; exact Bool.false_ne_true))

/-- Settles O26: by the timer, the member marker, and the undo stack. -/
theorem batchTimerExpiryVoids : Obligations.BatchTimerExpiryVoids := by
  intro s hinv
  have h : CoreInv s := ⟨hinv.sound, hinv.requests, hinv.rest⟩
  refine ⟨exec_batchTimerExpiry_stopped, fun ht hm => ?_, fun u us ht hm hu => ?_, fun ht hm hu hq => ?_⟩
  · exact (exec_batchTimerExpiry ht).trans (congrArg _ (if_pos hm))
  · obtain ⟨w, e, hexpiry, hfree, hbusy⟩ := batchExpiry_unwinds h ht hm hu
    rw [exec_batchTimerExpiry ht, hexpiry]
    exact ⟨_, rfl, rfl, rfl, rfl, hfree, hbusy, rfl, rfl, rfl, rfl, rfl, rfl, rfl⟩
  · obtain ⟨w, hexpiry⟩ := batchExpiry_ends h ht hm hu hq
    rw [exec_batchTimerExpiry ht, hexpiry]
    exact ⟨_, rfl, rfl, rfl, rfl, rfl, rfl, rfl, rfl, rfl⟩

end Sys2Proof.Machine
end

section
/-! ### The threshold evaluation, and the event queue (R134, R135, R142, R143, R147) -/

namespace Sys2Proof.Machine

open Sys2Proof.Safety

/-! #### The event queue over a step (R142, R143, R147) -/

/-- R191: the falling edge of RSTn clears the event queue only while RSTn is high. -/
theorem execInterfaceReset_eventSound {s t : State} (h : execInterfaceReset s = .next t) (hs : EventSound s.events) :
    EventSound t.events := by
  cases h
  split
  · exact (interfaceReset_undisturbed s).events hs
  · exact hs

/-- The event queue stays sound in every row, whatever the other blocks hold. -/
theorem exec_eventSound {c : Instr} {s t : State} (h : exec c s = .next t) (hs : EventSound s.events) :
    EventSound t.events := by
  cases c with
  | powerOnReset =>
    cases h
    exact eventSound_empty
  | rstnRise =>
    cases h
    exact hs
  | interfaceReset => exact execInterfaceReset_eventSound h hs
  | _ => exact (exec_blocksKept h nofun nofun nofun).events hs

/-- Settles O10: a step idles or runs one row. -/
theorem eventQueueStaysNumbered : Obligations.EventQueueStaysNumbered := by
  intro s t hs h
  unfold step at h
  split at h
  · cases h
    exact hs
  · exact exec_eventSound h hs

/-! #### One evaluation of the threshold monitor (R134, R135) -/

theorem sideOf_of_le {t : Threshold} {v : Dec} (h : t.value.toInt ≤ v.toInt) : sideOf t v = .atOrAbove := by
  rw [sideOf_eq, if_pos h]

theorem sideOf_of_lt {t : Threshold} {v : Dec} (h : v.toInt < t.value.toInt) : sideOf t v = .below := by
  rw [sideOf_eq, if_neg (Int.not_le.mpr h)]

theorem filterPasses_atOrAbove_iff {f : Filter} : filterPasses f .atOrAbove = true ↔ f ≠ .down := by
  cases f <;> decide

theorem filterPasses_below_iff {f : Filter} : filterPasses f .below = true ↔ f ≠ .up := by
  cases f <;> decide

section

variable {es : Vector Entry 32} {i : Fin 32}

theorem evaluate_of_none (ht : es[i].threshold = none) : evaluate es i = (es, none) := by
  unfold evaluate
  rw [ht]

variable {t : Threshold} (ht : es[i].threshold = some t)

include ht

theorem evaluate_of_same_side (h : sideOf t es[i].value = es[i].side) : evaluate es i = (es, none) := by
  unfold evaluate
  rw [ht]
  exact if_pos h

theorem evaluate_of_new_side {d : Side} (hd : sideOf t es[i].value = d) (h : es[i].side ≠ d) :
    evaluate es i = (setEntry es i { es[i] with side := d },
      if filterPasses t.filter d then some (thresholdEvent i d) else none) := by
  unfold evaluate
  rw [ht]
  dsimp only
  rw [hd, if_neg h.symm]

theorem evaluate_up (hv : t.value.toInt ≤ es[i].value.toInt) (hs : es[i].side = .below) :
    evaluate es i = (setEntry es i { es[i] with side := .atOrAbove },
      if t.filter = .down then none else some ⟨.threshold, byteOf i.val, 1⟩) := by
  rw [evaluate_of_new_side ht (sideOf_of_le hv) (by rw [hs]; decide)]
  simp only [filterPasses_atOrAbove_iff, ite_not]
  rfl

theorem evaluate_down (hv : es[i].value.toInt < t.value.toInt) (hs : es[i].side = .atOrAbove) :
    evaluate es i = (setEntry es i { es[i] with side := .below },
      if t.filter = .up then none else some ⟨.threshold, byteOf i.val, 2⟩) := by
  rw [evaluate_of_new_side ht (sideOf_of_lt hv) (by rw [hs]; decide)]
  simp only [filterPasses_below_iff, ite_not]
  rfl

end

/-- Settles O6: by the threshold's presence, the value's side and the side stored. -/
theorem thresholdEvaluation : Obligations.ThresholdEvaluation := fun _ _ =>
  ⟨evaluate_of_none, fun _ ht =>
    ⟨fun hv hs => evaluate_of_same_side ht ((sideOf_of_le hv).trans hs.symm),
      fun hv hs => evaluate_of_same_side ht ((sideOf_of_lt hv).trans hs.symm), evaluate_up ht, evaluate_down ht⟩⟩

/-! #### The pop of the event queue (R143) -/

theorem exec_evtpop (v : Byte) {s : State} (hr : s.rstn = true) :
    exec (.evtpop v) s = .next (popEvents (phaseToState s)) := congrArg _ (if_pos hr)

theorem popEvents_nil {s : State} (h : s.events.records = []) : popEvents s = s := by
  unfold popEvents
  rw [h]

section

variable {s : State} {e : EventRec} {rest : List EventRec} (h : s.events.records = e :: rest)

include h

theorem popEvents_cons (hl : s.events.lost = 0) :
    popEvents s = s.withEvents { s.events with records := rest } := by
  unfold popEvents
  rw [h]
  exact if_pos hl

/-- R143: the LOST record takes the freed place, with the next sequence number. -/
theorem popEvents_cons_lost (hl : s.events.lost ≠ 0) :
    popEvents s = placeEvent ⟨.lost, 0, byteOf s.events.lost⟩ (s.withEvents ⟨rest, 0, s.events.nextSeq⟩) := by
  unfold popEvents
  rw [h]
  exact if_neg hl

end

/-- Settles O52: the empty queue, and a head without and with events lost behind it. -/
theorem eventPop : Obligations.EventPop := by
  intro v s hr
  rw [exec_evtpop v hr]
  refine ⟨fun hnil => ?_, fun e rest hcons => ⟨fun hl => ?_, fun hl => ?_⟩⟩
  · rw [popEvents_nil (s := phaseToState s) hnil]
    rfl
  · rw [popEvents_cons (s := phaseToState s) hcons hl]
    rfl
  · rw [popEvents_cons_lost (s := phaseToState s) hcons hl]
    rfl

end Sys2Proof.Machine
end

section
/-! ### Bytes of the window, and the accesses of the interval timer and of LINKSTATUS (R153, R156, R157, R175) -/

namespace Sys2Proof.Machine

open Sys2Proof.Safety

/-! #### Numbers as bytes -/

theorem byteOf_toNat_of_lt {n : Nat} (h : n < 256) : (byteOf n).toNat = n := Nat.mod_eq_of_lt h

theorem bit_le (b : Bool) (n : Nat) : bit b n ≤ 2 ^ n := by
  unfold bit
  split
  · exact le_rfl
  · exact Nat.zero_le _

theorem loByte_toNat (x : Half) : loByte x.toNat = x.setWidth 8 := BitVec.ofNat_toNat 8 x

theorem hiByte_toNat (x : Half) : hiByte x.toNat = (x >>> 8).setWidth 8 := by
  rw [← loByte_toNat, BitVec.toNat_ushiftRight, Nat.shiftRight_eq_div_pow]
  rfl

/-! #### Writes that take effect -/

/-- R178, R192: while RSTn is high a window write acts on the state whose LINKSTATUS phase is STATE. -/
theorem exec_windowWrite_high {c : Instr} {a : Addr} {v : Byte} (h : windowWrite c = some (a, v)) {s : State}
    (hr : s.rstn = true) : exec c s = .next (writeReg a.toNat v (phaseToState s)) :=
  (exec_windowWrite h s).trans (congrArg _ (if_pos hr))

/-- R157: the count is loaded only at a timer parked with count 0, from a length not 0. -/
theorem writeIntervalLow_load {v : Byte} {s : State} (hrun : s.interval.run = true) (hcount : s.interval.count = 0)
    (hlen : halfOf s.interval.hold v ≠ 0) : writeIntervalLow v s = s.withInterval { s.interval with
      length := halfOf s.interval.hold v, count := halfOf s.interval.hold v } := by
  have hload : (s.interval.run && s.interval.count == 0 && halfOf s.interval.hold v != 0) = true := by
    rw [hrun, hcount, bne_iff_ne.mpr hlen]
    rfl
  unfold writeIntervalLow
  dsimp only
  rw [if_pos hload]

theorem writeIntervalLow_keep {v : Byte} {s : State}
    (h : s.interval.run = false ∨ s.interval.count ≠ 0 ∨ halfOf s.interval.hold v = 0) :
    writeIntervalLow v s = s.withInterval { s.interval with length := halfOf s.interval.hold v } := by
  have hkeep : ¬(s.interval.run && s.interval.count == 0 && halfOf s.interval.hold v != 0) = true := by
    rw [Bool.and_eq_true, Bool.and_eq_true, beq_iff_eq, bne_iff_ne]
    rintro ⟨⟨hrun, hcount⟩, hlen⟩
    rcases h with h | h | h
    · exact absurd (h.symm.trans hrun) Bool.false_ne_true
    · exact h hcount
    · exact hlen h
  unfold writeIntervalLow
  dsimp only
  rw [if_neg hkeep]

/-- Settles O57: by whether the write loads the count. -/
theorem intervalWrites : Obligations.IntervalWrites := by
  rintro v s n hr rfl
  rw [exec_windowWrite_high (c := .intervalWrite v) rfl hr]
  exact ⟨fun hrun hcount hlen => congrArg _ (writeIntervalLow_load (s := phaseToState s) hrun hcount hlen),
    fun h => congrArg _ (writeIntervalLow_keep (s := phaseToState s) h)⟩

/-- R156: a start loads the count from the length. -/
theorem writeTbctrl_start {v : Byte} {s : State} (hrun : s.interval.run = false) (hv : v.getLsbD 0 = true) :
    writeTbctrl v s = s.withInterval { s.interval with
      run := true, evEnable := v.getLsbD 1, count := s.interval.length } := by
  unfold writeTbctrl
  rw [hrun, hv]
  rfl

theorem writeTbctrl_keep {v : Byte} {s : State} (h : s.interval.run = true ∨ v.getLsbD 0 = false) :
    writeTbctrl v s = s.withInterval { s.interval with run := v.getLsbD 0, evEnable := v.getLsbD 1 } := by
  have hkeep : (v.getLsbD 0 && !s.interval.run) = false := by
    rcases h with h | h
    · rw [h, Bool.not_true, Bool.and_false]
    · rw [h, Bool.false_and]
  unfold writeTbctrl
  rw [hkeep]
  rfl

/-- Settles O58: by whether the write starts the timer. -/
theorem tbctrlWrites : Obligations.TbctrlWrites := by
  intro v s hr
  rw [exec_windowWrite_high (c := .tbctrl v) rfl hr]
  exact ⟨fun hrun hv => congrArg _ (writeTbctrl_start (s := phaseToState s) hrun hv),
    fun h => congrArg _ (writeTbctrl_keep (s := phaseToState s) h)⟩

/-! #### The paired reads -/

theorem headTag_eq (l : Link) : headTag l = (l.jobs.head?.map fun j => j.tag).getD 0 := by
  unfold headTag
  cases l.jobs <;> rfl

theorem bit_not_isEmpty {α : Type} (l : List α) (n : Nat) : bit (!l.isEmpty) n = if l = [] then 0 else 2 ^ n := by
  cases l <;> rfl

theorem readLinkstatus_state {s : State} (hr : s.rstn = true) (hp : s.link.lsPhase = .state) :
    readLinkstatus s = (s.withLink { s.link with lsPhase := .tag, tagLatch := headTag s.link }).withBusOut
      (linkStatusByte s.link) := by
  unfold readLinkstatus
  rw [if_pos hr, hp]

theorem readLinkstatus_tag {s : State} (hr : s.rstn = true) (hp : s.link.lsPhase = .tag) :
    readLinkstatus s = (s.withLink { s.link with lsPhase := .state }).withBusOut s.link.tagLatch := by
  unfold readLinkstatus
  rw [if_pos hr, hp]

/-- R178: while RSTn is high a read has its side effect, and then drives the byte of its address. -/
theorem hostRead_high (addr : Nat) (act : State → State) {s : State} (hr : s.rstn = true) :
    hostRead addr act s = (act (phaseToState s)).withBusOut (plainRead (act (phaseToState s)) addr) := if_pos hr

/-- Settles O56: LINKSTATUS by its phase, and INTCOUNT. -/
theorem pairedReads : Obligations.PairedReads := by
  intro s hr
  refine ⟨fun hp => ?_, fun hp => congrArg _ (readLinkstatus_tag hr hp), ?_⟩
  · have hjobs : bit (!s.link.jobs.isEmpty) 2 = if s.link.jobs = [] then 0 else 4 := bit_not_isEmpty s.link.jobs 2
    rw [← headTag_eq, ← hjobs]
    exact congrArg _ (readLinkstatus_state hr hp)
  · rw [← hiByte_toNat, ← loByte_toNat]
    exact congrArg _ (hostRead_high 0x33 latchCount hr)

end Sys2Proof.Machine
end

section
/-! ### Addresses without a row of their own: what a write changes, and what a read shows (R178–R190) -/

namespace Sys2Proof.Machine

open Sys2Proof.Safety

/-! #### Addresses as numbers -/

theorem ite_of_addr_ne {α : Type} {a : Addr} (n : Nat) (h : a ≠ BitVec.ofNat 6 n) (x y : α) :
    (if a.toNat = n then x else y) = y := by
  refine if_neg ?_
  rintro rfl
  exact h ((BitVec.ofNat_toNat 6 a).trans (BitVec.setWidth_eq a)).symm

/-! #### Writes (R153, R159, R163, R179, R186) -/

theorem stagedByte_stageByte {p q : Nat} (hp : p < 12) (hq : q < 12) (r : CmdRec) (v : Byte) :
    stagedByte (stageByte r q v) p = if q = p then v else stagedByte r p := by
  interval_cases q <;> interval_cases p <;> rfl

/-- R178: the state after a write of an address without a row of its own. -/
def plainWritten (a : Addr) (v : Byte) (s : State) : State :=
  { s with
    window := { s.window with
      staging := if 0x04 ≤ a.toNat ∧ a.toNat ≤ 0x0F then stageByte s.window.staging (a.toNat - 0x04) v
        else s.window.staging
      accSel := if a = 0x20 then v.setWidth 5 else s.window.accSel
      chSel := if a = 0x28 then v.setWidth 3 else s.window.chSel }
    interval := { s.interval with hold := if a = 0x31 then v else s.interval.hold }
    batchLimit :=
      ⟨if a = 0x36 then halfOf s.batchLimit.hold v else s.batchLimit.value, if a = 0x35 then v else s.batchLimit.hold⟩
    link := { s.link with timeoutReg := if a = 0x39 then v else s.link.timeoutReg } }

section

variable {a : Addr}

theorem plainWritten_staging (h : 0x04 ≤ a.toNat ∧ a.toNat ≤ 0x0F) (v : Byte) (s : State) :
    plainWritten a v s = s.withWindow { s.window with staging := stageByte s.window.staging (a.toNat - 0x04) v } := by
  have hne : ∀ k : Addr, 0x10 ≤ k.toNat → a ≠ k := by
    rintro k hk rfl
    exact absurd h.2 (Nat.not_le.mpr hk)
  unfold plainWritten
  rw [if_pos h, if_neg (hne 0x20 (by decide)), if_neg (hne 0x28 (by decide)), if_neg (hne 0x31 (by decide)),
    if_neg (hne 0x35 (by decide)), if_neg (hne 0x36 (by decide)), if_neg (hne 0x39 (by decide))]
  rfl

theorem writeReg_eq_plainWritten {v : Byte} (h : writeHasRow a v = false) (s : State) :
    writeReg a.toNat v s = plainWritten a v s := by
  simp only [writeHasRow, Bool.or_eq_false_iff, Bool.and_eq_false_imp, beq_iff_eq, beq_eq_false_iff_ne] at h
  obtain ⟨⟨⟨⟨⟨⟨⟨⟨h01, h02⟩, h03⟩, h10⟩, h18⟩, h1E⟩, h30⟩, h32⟩, h38⟩ := h
  by_cases hcontrol : a = 0x01
  · subst hcontrol
    have hkeep : writeControl v s = s := if_neg (Bool.eq_false_iff.mp (h01 rfl))
    exact hkeep
  unfold writeReg
  rw [ite_of_addr_ne 0x01 hcontrol, ite_of_addr_ne 0x02 h02, ite_of_addr_ne 0x03 h03]
  by_cases hstaging : 0x04 ≤ a.toNat ∧ a.toNat ≤ 0x0F
  · rw [if_pos hstaging, plainWritten_staging hstaging]
  rw [if_neg hstaging, ite_of_addr_ne 0x10 h10, ite_of_addr_ne 0x18 h18, ite_of_addr_ne 0x1E h1E,
    ite_of_addr_ne 0x30 h30, ite_of_addr_ne 0x32 h32, ite_of_addr_ne 0x38 h38]
  unfold plainWritten
  rw [if_neg hstaging]
  by_cases hacc : a = 0x20
  · subst hacc; rfl
  by_cases hchan : a = 0x28
  · subst hchan; rfl
  by_cases hhold : a = 0x31
  · subst hhold; rfl
  by_cases hlimitHold : a = 0x35
  · subst hlimitHold; rfl
  by_cases hlimit : a = 0x36
  · subst hlimit; rfl
  by_cases htimeout : a = 0x39
  · subst htimeout; rfl
  rw [ite_of_addr_ne 0x20 hacc, ite_of_addr_ne 0x28 hchan, ite_of_addr_ne 0x31 hhold, ite_of_addr_ne 0x35 hlimitHold,
    ite_of_addr_ne 0x36 hlimit, ite_of_addr_ne 0x39 htimeout, if_neg hacc, if_neg hchan, if_neg hhold,
    if_neg hlimitHold, if_neg hlimit, if_neg htimeout]

theorem stagedByte_plainWritten {p : Nat} (hp : p < 12) (v : Byte) (s : State) :
    stagedByte (plainWritten a v s).window.staging p
      = if a.toNat = 4 + p then v else stagedByte s.window.staging p := by
  by_cases h : 0x04 ≤ a.toNat ∧ a.toNat ≤ 0x0F
  · rw [plainWritten_staging h, State.withWindow_window, stagedByte_stageByte hp (by omega)]
    exact if_congr (by omega) rfl rfl
  · have hne : a.toNat ≠ 4 + p := by omega
    rw [if_neg hne]
    exact congrArg (stagedByte · p) (if_neg h)

end

/-- Settles O59: by the state that the write leaves. -/
theorem registerWrites : Obligations.RegisterWrites := by
  intro a v s hr hrow
  refine ⟨plainWritten a v (phaseToState s), ?_, fun p hp => stagedByte_plainWritten hp v (phaseToState s), ?_, ?_, rfl,
    rfl, rfl, rfl, rfl⟩
  · rw [exec_windowWrite_high (c := .registerWrite a v) rfl hr, writeReg_eq_plainWritten hrow]
  · exact (apply_ite BitVec.toNat ..).trans (if_congr .rfl (BitVec.toNat_setWidth 5 v) rfl)
  · exact (apply_ite BitVec.toNat ..).trans (if_congr .rfl (BitVec.toNat_setWidth 3 v) rfl)

/-! #### The bytes shown (R156, R181, R183, R189, R190) -/

theorem FlagWord.toByte_toNat (f : FlagWord) : f.toByte.toNat = bit f.n 3 + bit f.z 2 + bit f.c 1 + bit f.v 0 := by
  have hn := bit_le f.n 3
  have hz := bit_le f.z 2
  have hc := bit_le f.c 1
  have hv := bit_le f.v 0
  exact byteOf_toNat_of_lt (by omega)

theorem IrqBits.toByte_toNat (f : IrqBits) :
    f.toByte.toNat = bit f.comp 0 + bit f.evt 1 + bit f.space 2 + bit f.quiet 3 := by
  have hcomp := bit_le f.comp 0
  have hevt := bit_le f.evt 1
  have hspace := bit_le f.space 2
  have hquiet := bit_le f.quiet 3
  exact byteOf_toNat_of_lt (by omega)

theorem tbctrlByte_toNat (t : IntervalTimer) : (tbctrlByte t).toNat = bit t.run 0 + bit t.evEnable 1 := by
  have hrun := bit_le t.run 0
  have hev := bit_le t.evEnable 1
  exact byteOf_toNat_of_lt (by omega)

theorem SeqState.code_le (q : SeqState) : q.code ≤ 4 := by
  unfold SeqState.code
  split <;> omega

theorem BatchPhase.code_le (p : BatchPhase) : p.code ≤ 3 := by
  unfold BatchPhase.code
  split <;> omega

theorem bit_not (b : Bool) (n : Nat) : bit (!b) n = if b then 0 else 2 ^ n := by
  cases b <;> rfl

theorem bit_recovering (b : Batch) (n : Nat) :
    bit (recovering b) n = if b.phase = .unwinding ∧ b.cause = .reset then 2 ^ n else 0 := by
  refine if_congr ?_ rfl rfl
  unfold recovering
  rw [Bool.and_eq_true, beq_iff_eq, beq_iff_eq]

theorem bit_frame (l : LinkState) (n : Nat) :
    bit l.frame.isSome n = match l with | .ready _ => 2 ^ n | .sending _ => 2 ^ n | _ => 0 := by
  cases l <;> rfl

/-- R181: STATUS fits a byte, its five fields each in bits of their own. -/
theorem statusByte_toNat (s : State) : (statusByte s).toNat = (if engineFree s then 0 else 1) + 2 * s.seq.code
    + 16 * s.batch.phase.code + (match s.link.state with | .ready _ => 64 | .sending _ => 64 | _ => 0)
    + (if s.batch.phase = .unwinding ∧ s.batch.cause = .reset then 128 else 0) := by
  have hbusy := bit_le (!engineFree s) 0
  have hseq := s.seq.code_le
  have hphase := s.batch.phase.code_le
  have hframe := bit_le s.link.state.frame.isSome 6
  have hrecovering := bit_le (recovering s.batch) 7
  have hfits : (statusByte s).toNat = bit (!engineFree s) 0 + s.seq.code * 2 + s.batch.phase.code * 16
      + bit s.link.state.frame.isSome 6 + bit (recovering s.batch) 7 := byteOf_toNat_of_lt (by omega)
  rw [hfits, bit_not, bit_frame, bit_recovering, Nat.mul_comm s.seq.code, Nat.mul_comm s.batch.phase.code]
  rfl

/-! #### The bytes of a range of addresses (R179, R187, R188) -/

section

variable (s : State) {p : Nat}

theorem plainRead_staging (hp : p < 12) : plainRead s (4 + p) = stagedByte s.window.staging p := by
  interval_cases p <;> rfl

theorem plainRead_accBuf (hp : p < 7) : plainRead s (0x21 + p) = s.window.accBuf[p] := by
  have hread : plainRead s (0x21 + p) = s.window.accBuf.toList.getD p 0 := by interval_cases p <;> rfl
  rw [hread, List.getD_eq_getElem _ _ (by rwa [Vector.length_toList]), Vector.getElem_toList]

theorem plainRead_chBuf (hp : p < 7) : plainRead s (0x29 + p) = s.window.chBuf[p] := by
  have hread : plainRead s (0x29 + p) = s.window.chBuf.toList.getD p 0 := by interval_cases p <;> rfl
  rw [hread, List.getD_eq_getElem _ _ (by rwa [Vector.length_toList]), Vector.getElem_toList]

end

/-! #### The heads of the two queues (R184, R185) -/

theorem ringHeadByte_head {ring : List Completion} {c : Completion} (h : ring.head? = some c) :
    ringHeadByte ring 0 = c.tag ∧ ringHeadByte ring 1 = c.code ∧ ringHeadByte ring 2 = c.status.code
      ∧ ringHeadByte ring 3 = c.flags.toByte := by
  obtain ⟨rest, rfl⟩ := List.head?_eq_some_iff.mp h
  exact ⟨rfl, rfl, rfl, rfl⟩

theorem eventHeadByte_head {records : List EventRec} {e : EventRec} (h : records.head? = some e) :
    eventHeadByte records 0 = e.seqNo ∧ eventHeadByte records 1 = e.body.kind.code
      ∧ eventHeadByte records 2 = e.body.index ∧ eventHeadByte records 3 = e.body.detail := by
  obtain ⟨rest, rfl⟩ := List.head?_eq_some_iff.mp h
  exact ⟨rfl, rfl, rfl, rfl⟩

theorem ringHeadByte_of_empty {ring : List Completion} (h : ring = []) (p : Nat) : ringHeadByte ring p = 0 := by
  rw [h]
  rfl

theorem eventHeadByte_of_empty {records : List EventRec} (h : records = []) (p : Nat) : eventHeadByte records p = 0 := by
  rw [h]
  rfl

/-! #### Reads -/

theorem readReg_plain {a : Addr} (h : readHasRow a = false) (s : State) : readReg a.toNat s = hostRead a.toNat id s := by
  simp only [readHasRow, Bool.or_eq_false_iff, beq_eq_false_iff_ne] at h
  obtain ⟨⟨⟨hacc, hchan⟩, hcount⟩, hlink⟩ := h
  unfold readReg
  rw [ite_of_addr_ne 0x21 hacc, ite_of_addr_ne 0x29 hchan, ite_of_addr_ne 0x33 hcount,
    ite_of_addr_ne 0x3A hlink]

theorem exec_readAccess_plain {a : Addr} {s : State} (hr : s.rstn = true) (h : readHasRow a = false) :
    exec (.readAccess a) s = .next ((phaseToState s).withBusOut (plainRead (phaseToState s) a.toNat)) := by
  rw [exec_windowRead (c := .readAccess a) rfl, readReg_plain h, hostRead_high _ _ hr]
  rfl

/-- Settles O60: the four reads with a step of their own, then the bytes by their addresses. -/
theorem readsShowState : Obligations.ReadsShowState := by
  refine ⟨fun s => ⟨rfl, rfl, rfl, rfl⟩, fun a s hr hrow => ⟨_, exec_readAccess_plain hr hrow, ?_⟩⟩
  have hat : ∀ k : Addr, a = k → plainRead (phaseToState s) a.toNat = plainRead (phaseToState s) k.toNat := fun _ h =>
    congrArg (fun k : Addr => plainRead (phaseToState s) k.toNat) h
  have hnat : ∀ k : Addr, a = k →
      (plainRead (phaseToState s) a.toNat).toNat = (plainRead (phaseToState s) k.toNat).toNat := fun k h =>
    congrArg BitVec.toNat (hat k h)
  refine ⟨fun h => (hnat 0x00 h).trans (statusByte_toNat s), hat 0x11, hat 0x13, hat 0x19, hat 0x1F,
    fun h => (hnat 0x12 h).trans s.flags.toByte_toNat,
    fun h => (hnat 0x02 h).trans s.window.irqFlag.toByte_toNat,
    fun h => (hnat 0x03 h).trans s.window.irqEn.toByte_toNat,
    fun h => (hnat 0x20 h).trans (byteOf_toNat_of_lt (s.window.accSel.isLt.trans (by decide))),
    fun h => (hnat 0x28 h).trans (byteOf_toNat_of_lt (s.window.chSel.isLt.trans (by decide))),
    fun h => (hnat 0x30 h).trans (tbctrlByte_toNat s.interval),
    fun h => (hat 0x31 h).trans (hiByte_toNat s.interval.length),
    fun h => (hat 0x32 h).trans (loByte_toNat s.interval.length), hat 0x34,
    fun h => (hat 0x35 h).trans (hiByte_toNat s.batchLimit.value),
    fun h => (hat 0x36 h).trans (loByte_toNat s.batchLimit.value), hat 0x38, hat 0x39, hat 0x10, hat 0x3B,
    fun p hp h => h ▸ plainRead_staging (phaseToState s) hp,
    fun p h => h ▸ plainRead_accBuf (phaseToState s) p.isLt,
    fun p h => h ▸ plainRead_chBuf (phaseToState s) p.isLt,
    fun c hc => ?_, fun e he => ?_, fun hnil h => ?_, fun hnil h => ?_, fun h => ?_⟩
  · obtain ⟨htag, hcode, hstatus, hflags⟩ := ringHeadByte_head hc
    exact ⟨fun h => (hat 0x14 h).trans htag, fun h => (hat 0x15 h).trans hcode, fun h => (hat 0x16 h).trans hstatus,
      fun h => (hat 0x17 h).trans hflags⟩
  · obtain ⟨hseq, hkind, hindex, hdetail⟩ := eventHeadByte_head he
    exact ⟨fun h => (hat 0x1A h).trans hseq, fun h => (hat 0x1B h).trans hkind, fun h => (hat 0x1C h).trans hindex,
      fun h => (hat 0x1D h).trans hdetail⟩
  · have hzero := ringHeadByte_of_empty hnil
    rcases h with h | h | h | h
    exacts [(hat 0x14 h).trans (hzero 0), (hat 0x15 h).trans (hzero 1), (hat 0x16 h).trans (hzero 2),
      (hat 0x17 h).trans (hzero 3)]
  · have hzero := eventHeadByte_of_empty hnil
    rcases h with h | h | h | h
    exacts [(hat 0x1A h).trans (hzero 0), (hat 0x1B h).trans (hzero 1), (hat 0x1C h).trans (hzero 2),
      (hat 0x1D h).trans (hzero 3)]
  · rcases h with h | h | h | h | h | h | h | h <;> exact hat _ h

end Sys2Proof.Machine
end

section
/-! ### Frames of the report link (R166, R167) -/

namespace Sys2Proof.Machine

/-- R167: the bytes of a frame in the order in which they are sent. -/
theorem frameBytes_eq (s : State) (j : Job) : frameBytes s j =
    [0xD4, j.tag, byteOf ((if j.periodic then 128 else 0) + j.list.length)]
      ++ (j.list.flatMap (frameEntry s) ++ [0 - byteSum (frameBody s j)]) := rfl

theorem frameEntry_length (s : State) (i : Fin 32) : (frameEntry s i).length = 8 := rfl

theorem length_flatMap_of_length {α β : Type} {f : α → List β} {n : Nat} (hf : ∀ x, (f x).length = n) (l : List α) :
    (l.flatMap f).length = n * l.length := by
  rw [List.length_flatMap, funext hf, List.map_const', List.sum_replicate_nat, Nat.mul_comm]

/-- In a list of blocks of one length, followed by anything, block k stands at k times that length. -/
theorem take_drop_flatMap {α β : Type} {f : α → List β} {n : Nat} (hf : ∀ x, (f x).length = n) (tl : List β) :
    ∀ {l : List α} {k : Nat} {x : α}, l[k]? = some x → ((l.flatMap f ++ tl).drop (n * k)).take n = f x
  | y :: l, 0, x, h => by
    obtain rfl : y = x := Option.some.inj h
    rw [Nat.mul_zero, List.drop_zero, List.flatMap_cons, List.append_assoc]
    exact List.take_left' (hf y)
  | y :: l, k + 1, x, h => by
    have ih := take_drop_flatMap hf tl (l := l) (k := k) (x := x) h
    have hskip := List.drop_length_add_append (l₁ := f y) (l₂ := l.flatMap f ++ tl) (n * k)
    rw [hf] at hskip
    rw [Nat.mul_succ, Nat.add_comm, List.flatMap_cons, List.append_assoc, hskip, ih]

/-- R167: a last byte that is the negated sum of the others makes the sum zero. -/
theorem byteSum_checked (bs : List Byte) : byteSum (bs ++ [0 - byteSum bs]) = 0 :=
  (List.foldl_concat ..).trans (add_sub_cancel (byteSum bs) 0)

/-- Settles O27: the three first bytes, the entries in blocks of eight, and the check byte. -/
theorem frameLayout : Obligations.FrameLayout := by
  intro s j _
  refine ⟨?_, rfl, byteSum_checked (frameBody s j), fun k i hk => ?_⟩
  · rw [frameBytes_eq, List.length_append, List.length_append, length_flatMap_of_length (frameEntry_length s),
      List.length_cons, List.length_cons, List.length_singleton, List.length_singleton]
    omega
  · rw [← List.drop_drop]
    exact take_drop_flatMap (frameEntry_length s) [0 - byteSum (frameBody s j)] hk

end Sys2Proof.Machine
end

section
/-! ### The lines of the report link, and the ways a frame ends (R164, R165, R168, R171, R173, R174) -/

namespace Sys2Proof.Machine

open Sys2Proof.Safety

/-! #### The lines (R164, R168, R169) -/

section

variable {s : State} {f : Frame}

theorem lines_off (h : s.link.state = .off) : lclkDriven s = none ∧ ldat s = true ∧ lrdy s = false := by
  unfold lclkDriven ldat lrdy
  rw [h]
  exact ⟨rfl, rfl, rfl⟩

theorem lines_idle (h : s.link.state = .idle) :
    lclkDriven s = (if s.link.ctrl.getLsbD 1 then none else some true) ∧ ldat s = true ∧ lrdy s = false := by
  unfold lclkDriven ldat lrdy
  rw [h]
  exact ⟨rfl, rfl, rfl⟩

theorem lines_ready (h : s.link.state = .ready f) : lclkDriven s = none ∧ ldat s = true ∧ lrdy s = true := by
  unfold lclkDriven ldat lrdy
  rw [h]
  exact ⟨rfl, rfl, rfl⟩

theorem ldat_sending (h : s.link.state = .sending f) :
    ldat s = if f.cells = 0 then true else frameBit f (f.cells - 1) := by
  unfold ldat
  rw [h, ← cellBit_eq]

theorem lines_sending (h : s.link.state = .sending f) :
    lclkDriven s = (if f.followed then none else some f.lclkHigh) ∧ lrdy s = !f.followed := by
  unfold lclkDriven lrdy
  rw [h]
  exact ⟨rfl, rfl⟩

/-- R168: LDAT carries the bit of the cell begun last. -/
theorem ldat_cell (h : s.link.state = .sending f) {n : Nat} (hn : f.cells = n + 1) : ldat s = frameBit f n := by
  rw [ldat_sending h, hn, if_neg n.succ_ne_zero, Nat.add_sub_cancel]

end

/-! #### A frame under way -/

theorem LinkState.frame_eq_some {l : LinkState} {f : Frame} : l.frame = some f ↔ l = .ready f ∨ l = .sending f := by
  cases l <;> simp [LinkState.frame]

/-! #### The head job's frame ends, and the next may start (R165, R171, R173) -/

theorem appendEvent_withLink (b : EventBody) (s : State) (x : Link) :
    appendEvent b (s.withLink x) = (appendEvent b s).withLink x :=
  appendAll_comm (g := fun t => t.withLink x) (evs := [b]) (s := s)

theorem dropHead_cons {s : State} {j : Job} {rest : List Job} (h : s.link.jobs = j :: rest) (kind : EventKind)
    (detail : Job → Byte) (after : LinkState) : dropHead kind detail after s
      = (appendEvent ⟨kind, j.tag, detail j⟩ s).withLink { s.link with jobs := rest, state := after } := by
  unfold dropHead
  rw [h]
  exact appendEvent_withLink _ s _

/-- R165, R171, R173: the state after a frame that ends with the event `b` and leaves the jobs `rest`; the next frame's
first DRIVEN edge would be `wait` periods away. -/
def frameEnded (wait : Nat) (b : EventBody) (rest : List Job) (s : State) : State :=
  tryStart wait ((appendEvent b s).withLink { s.link with jobs := rest, state := .idle })

theorem frameEnded_idle (wait : Nat) (b : EventBody) (s : State) : (frameEnded wait b [] s).link.state = .idle := rfl

/-- R165: the next job's frame starts in the same event, by the settings and the snapshot of this instant. -/
theorem frameEnded_started (wait : Nat) (b : EventBody) (k : Job) (ks : List Job) (s : State) :
    FrameStarted s k wait (frameEnded wait b (k :: ks) s).link.state := by
  obtain ⟨q, f, h⟩ := appendEvent_eq b s
  unfold frameEnded
  rw [h]
  exact tryStart_started wait _ k ks rfl rfl

/-- R171, R173: the end of a frame touches the job queue, the link's state, the event queue and EVT. -/
theorem frameEnded_frame (wait : Nat) (b : EventBody) (rest : List Job) (s : State) :
    frameEnded wait b rest s = { s with
      link := { s.link with jobs := rest, state := (frameEnded wait b rest s).link.state }
      events := (appendEvent b s).events, window := (appendEvent b s).window } := by
  obtain ⟨q, f, h⟩ := appendEvent_eq b s
  unfold frameEnded
  rw [h, tryStart_eq]
  rfl

/-- R165, R171, R173: what a frame's end makes of the jobs behind it, and its frame. -/
theorem frameEnded_spec (wait : Nat) (b : EventBody) (rest : List Job) (s : State) :
    (rest = [] → (frameEnded wait b rest s).link.state = .idle)
      ∧ (∀ (k : Job) (ks : List Job), rest = k :: ks → FrameStarted s k wait (frameEnded wait b rest s).link.state)
      ∧ frameEnded wait b rest s = { s with
        link := { s.link with jobs := rest, state := (frameEnded wait b rest s).link.state }
        events := (appendEvent b s).events, window := (appendEvent b s).window } :=
  ⟨fun hnil => hnil ▸ frameEnded_idle wait b s, fun k ks hk => hk ▸ frameEnded_started wait b k ks s,
    frameEnded_frame wait b rest s⟩

/-- R174: a cut removes the head job with its event and leaves the link OFF. -/
theorem cutFrame_cons {j : Job} {rest : List Job} (s : State) (l : Link) (hj : l.jobs = j :: rest) :
    cutFrame (s.withLink l) = { s with
      link := { l with jobs := rest, state := .off }
      events := (appendEvent ⟨.reportAborted, j.tag, 0⟩ s).events
      window := (appendEvent ⟨.reportAborted, j.tag, 0⟩ s).window } := by
  obtain ⟨q, f, h⟩ := appendEvent_eq ⟨.reportAborted, j.tag, 0⟩ s
  unfold cutFrame
  rw [dropHead_cons (s := s.withLink l) hj, appendEvent_withLink, h]
  rfl

section

variable {s : State} {f : Frame} {j : Job} {rest : List Job}

theorem exec_frameCompletion (hs : s.link.state = .sending f) : exec .frameCompletion s = .next (completeFrame f s) := by
  refine congrArg Host.Outcome.next ?_
  unfold frameEnd
  rw [hs]

theorem completeFrame_cons (hj : s.link.jobs = j :: rest) : completeFrame f s
    = frameEnded (if f.followed then 1 else halfPeriods f.rate) ⟨.reportDone, j.tag, byteOf j.list.length⟩ rest s := by
  unfold completeFrame
  rw [dropHead_cons hj, halfCell_eq]
  rfl

theorem timeoutFrame_cons (hj : s.link.jobs = j :: rest) :
    timeoutFrame s = frameEnded 1 ⟨.reportTimeout, j.tag, 0⟩ rest s := by
  unfold timeoutFrame
  rw [dropHead_cons hj]
  rfl

theorem exec_linkTimeout (hf : s.link.state.frame = some f) (ht : f.timeout.isSome = true) :
    exec .linkTimeout s = .next (timeoutFrame s) := by
  obtain ⟨n, hn⟩ := Option.isSome_iff_exists.mp ht
  refine congrArg Host.Outcome.next ?_
  unfold linkTimeout
  rw [hf, Option.bind_some, hn]

end

/-! #### Writes of LINKCTRL (R163, R174) -/

theorem exec_linkctrl {s : State} (hr : s.rstn = true) (v : Byte) :
    exec (.linkctrl v) s = .next (writeLinkctrl v (phaseToState s)) :=
  exec_windowWrite_high (c := .linkctrl v) rfl hr

section

variable {v : Byte} {s : State}

/-- R174: a disable while a frame is under way cuts it. -/
theorem writeLinkctrl_cut {f : Frame} (hv : v.getLsbD 0 = false) (hf : s.link.state.frame = some f) :
    writeLinkctrl v s = cutFrame (s.withLink { s.link with ctrl := v &&& 0x1F }) := by
  unfold writeLinkctrl ctrlEnable
  rw [hv]
  rcases LinkState.frame_eq_some.mp hf with h | h <;> rw [h] <;> rfl

theorem writeLinkctrl_disable (hv : v.getLsbD 0 = false) (hs : s.link.state = .off ∨ s.link.state = .idle) :
    writeLinkctrl v s = s.withLink { s.link with ctrl := v &&& 0x1F, state := .off } := by
  unfold writeLinkctrl ctrlEnable
  rw [hv]
  rcases hs with h | h
  · have hoff : s.withLink { s.link with ctrl := v &&& 0x1F, state := .off }
        = s.withLink { s.link with ctrl := v &&& 0x1F } := by rw [← h]
    rw [hoff, h]
    rfl
  · rw [h]
    rfl

/-- R165, R174: an enabled OFF link becomes IDLE, and the head job's frame may start. -/
theorem writeLinkctrl_enable (hv : v.getLsbD 0 = true) (hs : s.link.state = .off) :
    writeLinkctrl v s = tryStart 1 (s.withLink { s.link with ctrl := v &&& 0x1F, state := .idle }) := by
  unfold writeLinkctrl ctrlEnable
  rw [hv, hs]
  rfl

theorem writeLinkctrl_keep (hv : v.getLsbD 0 = true) (hs : s.link.state ≠ .off) :
    writeLinkctrl v s = s.withLink { s.link with ctrl := v &&& 0x1F } := by
  unfold writeLinkctrl ctrlEnable
  rw [hv]
  cases h : s.link.state with
  | off => exact absurd h hs
  | idle => rfl
  | ready f => rfl
  | sending f => rfl

theorem tryStart_empty (n : Nat) (h : s.link.jobs = []) : tryStart n s = s := by
  rcases tryStart_cases n s with ⟨j, js, -, hj, -⟩ | ⟨-, heq⟩
  · exact absurd (h.symm.trans hj) nofun
  · exact heq

end

/-- Settles O28: each of the three ends by what it makes of the head job and the jobs behind it. -/
theorem frameEnds : Obligations.FrameEnds := by
  intro s j rest hj
  refine ⟨fun f hs => ⟨_, exec_frameCompletion hs, ?_⟩, fun f hf ht => ⟨_, exec_linkTimeout hf ht, ?_⟩,
    fun f v hf hr hv => ?_⟩
  · rw [completeFrame_cons hj]
    exact frameEnded_spec _ _ rest s
  · rw [timeoutFrame_cons hj]
    exact frameEnded_spec _ _ rest s
  · rw [exec_linkctrl hr, writeLinkctrl_cut (s := phaseToState s) hv hf]
    exact congrArg _ (cutFrame_cons s _ hj)

/-! #### LINKCTRL's register and the link's state -/

/-- R163: the fields of LINKCTRL are those of the byte written. -/
theorem ctrl_fields (v : Byte) : (v &&& 0x1F).getLsbD 1 = v.getLsbD 1
    ∧ (v &&& 0x1F).extractLsb' 2 2 = v.extractLsb' 2 2 ∧ (v &&& 0x1F).getLsbD 4 = v.getLsbD 4 :=
  ⟨by simp, BitVec.extractLsb'_and.trans BitVec.and_allOnes, by simp⟩

/-- Settles O30: the lines by the link's state, the write by the enable bit and the link's state. -/
theorem linkctrlEnablesLink : Obligations.LinkctrlEnablesLink := by
  refine ⟨fun s => ⟨lines_off, lines_idle, fun f => lines_ready, fun f hs => ?_⟩, fun v s hr => ?_⟩
  · obtain ⟨hlclk, hlrdy⟩ := lines_sending hs
    exact ⟨hlclk, hlrdy, fun hzero => (ldat_sending hs).trans (if_pos hzero), fun n => ldat_cell hs⟩
  · rw [exec_linkctrl hr]
    refine ⟨fun hv hs hj => ?_, fun j rest hv hs hj => ?_, fun hv hs => ?_, fun hv hs => ?_⟩
    · rw [writeLinkctrl_enable (s := phaseToState s) hv hs, tryStart_empty]
      · rfl
      · exact hj
    · rw [writeLinkctrl_enable (s := phaseToState s) hv hs]
      obtain ⟨hmode, hrate, horder⟩ := ctrl_fields v
      obtain ⟨f, -, hstate, hfollowed, hfrate, hflsb, hbytes, hcells, -, htimeout, -⟩ := tryStart_started 1
        ((phaseToState s).withLink { (phaseToState s).link with ctrl := v &&& 0x1F, state := .idle }) j rest rfl hj
      simp only [State.withLink_link, hmode, hrate, horder] at hstate hfollowed hfrate hflsb htimeout
      refine ⟨_, f, rfl, ?_, hfollowed, hfrate, hflsb, hbytes, hcells, htimeout, ?_⟩
      · rw [← hstate, tryStart_eq]
        rfl
      · rw [tryStart_eq]
        rfl
    · exact congrArg _ (writeLinkctrl_keep (s := phaseToState s) hv hs)
    · exact congrArg _ (writeLinkctrl_disable (s := phaseToState s) hv hs)

end Sys2Proof.Machine
end

section
/-! ### The receiver's edges (R164, R168, R170, R172) -/

namespace Sys2Proof.Machine

open Sys2Proof.Safety

section

variable {s : State} {f : Frame}

/-- R170: a falling edge begins the first or the next cell of a FOLLOWED frame. -/
theorem fallingEdge_begins (hf : s.link.state.frame = some f) (hfol : f.followed = true)
    (hcell : s.link.state = .ready f ∨ f.cells < 8 * f.bytes.length) :
    fallingEdge s = s.withLink { s.link with state := .sending (reloadTimeout s.link (beginCell f)) } := by
  unfold fallingEdge
  rcases LinkState.frame_eq_some.mp hf with hs | hs <;> rw [hs]
  · exact if_pos hfol
  · have hlt : f.cells < frameCells f := hcell.resolve_left (fun hr => nomatch hs.symm.trans hr)
    dsimp only
    rw [hfol, decide_eq_true hlt]
    rfl

theorem risingEdge_ready (hs : s.link.state = .ready f) (hfol : f.followed = true) :
    risingEdge s = s.withLink { s.link with state := .ready (reloadTimeout s.link f) } := by
  unfold risingEdge
  rw [hs]
  exact if_pos hfol

theorem risingEdge_sending (hs : s.link.state = .sending f) (hfol : f.followed = true) :
    risingEdge s = if 8 * f.bytes.length ≤ f.cells then completeFrame f s
      else s.withLink { s.link with state := .sending (reloadTimeout s.link { f with lclkHigh := true }) } := by
  unfold risingEdge
  rw [hs]
  exact if_pos hfol

/-- R164, log 14: without a FOLLOWED frame an edge changes nothing. -/
theorem edges_ignored (h : ∀ f : Frame, s.link.state.frame = some f → f.followed = false) :
    fallingEdge s = s ∧ risingEdge s = s := by
  unfold fallingEdge risingEdge
  cases hs : s.link.state with
  | off => exact ⟨rfl, rfl⟩
  | idle => exact ⟨rfl, rfl⟩
  | ready f =>
    dsimp only
    rw [h f (LinkState.frame_eq_some.mpr (.inl hs))]
    exact ⟨rfl, rfl⟩
  | sending f =>
    dsimp only
    rw [h f (LinkState.frame_eq_some.mpr (.inr hs))]
    exact ⟨rfl, rfl⟩

/-! #### The lines at an edge -/

/-- R168, R170: after a falling edge LDAT carries the bit of the cell begun, with LRDY low. -/
theorem lines_fallingEdge (hf : s.link.state.frame = some f) (hfol : f.followed = true)
    (hcell : s.link.state = .ready f ∨ f.cells < 8 * f.bytes.length) :
    ldat (fallingEdge s) = frameBit f f.cells ∧ lrdy (fallingEdge s) = false ∧ lclkDriven (fallingEdge s) = none := by
  rw [fallingEdge_begins hf hfol hcell]
  obtain ⟨hlclk, hlrdy⟩ := lines_sending (f := reloadTimeout s.link (beginCell f))
    (s := s.withLink { s.link with state := .sending (reloadTimeout s.link (beginCell f)) }) rfl
  exact ⟨ldat_cell (f := reloadTimeout s.link (beginCell f)) rfl rfl, hlrdy.trans (congrArg Bool.not hfol),
    hlclk.trans (if_pos hfol)⟩

/-- R168, R170: the receiver samples at a rising edge, so the lines stay. -/
theorem lines_risingEdge (hf : s.link.state.frame = some f) (hfol : f.followed = true)
    (hcell : s.link.state = .ready f ∨ f.cells < 8 * f.bytes.length) :
    ldat (risingEdge s) = ldat s ∧ lrdy (risingEdge s) = lrdy s ∧ lclkDriven (risingEdge s) = none := by
  rcases LinkState.frame_eq_some.mp hf with hs | hs
  · obtain ⟨-, hldat, hlrdy⟩ := lines_ready hs
    rw [risingEdge_ready hs hfol, hldat, hlrdy]
    exact ⟨rfl, rfl, rfl⟩
  · have hlt : f.cells < 8 * f.bytes.length := hcell.resolve_left (fun hr => nomatch hs.symm.trans hr)
    rw [risingEdge_sending hs hfol, if_neg (Nat.not_le.mpr hlt), ldat_sending hs, (lines_sending hs).2]
    exact ⟨ldat_sending (f := reloadTimeout s.link { f with lclkHigh := true }) rfl, rfl, if_pos hfol⟩

end

/-- Settles O29: the two edges in READY and in SENDING, the last cell, and the lines. -/
theorem receiverClocksFrame : Obligations.ReceiverClocksFrame := by
  intro s
  refine ⟨fun f hs hfol => ⟨?_, ?_⟩, fun f hs hfol hlt => ⟨?_, ?_⟩, fun f hs hfol hle => ?_, fun h => ?_,
    fun f t hf hfol hcell => ⟨?_, ?_⟩⟩
  · exact congrArg _ (fallingEdge_begins (LinkState.frame_eq_some.mpr (.inl hs)) hfol (.inl hs))
  · exact congrArg _ (risingEdge_ready hs hfol)
  · exact congrArg _ (fallingEdge_begins (LinkState.frame_eq_some.mpr (.inr hs)) hfol (.inr hlt))
  · exact congrArg _ ((risingEdge_sending hs hfol).trans (if_neg (Nat.not_le.mpr hlt)))
  · exact (congrArg _ ((risingEdge_sending hs hfol).trans (if_pos hle))).trans (exec_frameCompletion hs).symm
  · obtain ⟨hfall, hrise⟩ := edges_ignored h
    exact ⟨congrArg _ hfall, congrArg _ hrise⟩
  · rintro ⟨⟩
    exact lines_fallingEdge hf hfol hcell
  · rintro ⟨⟩
    exact lines_risingEdge hf hfol hcell

end Sys2Proof.Machine
end

section
/-! ### The waiting commands: every command answers, and touches none of them (R178, R192; logs 7, 9) -/

namespace Sys2Proof.Machine

/-! #### Events, the engine and the batch unit -/

section

variable (s : State)

@[simp] theorem appendEvent_pending (b : EventBody) : (appendEvent b s).pending = s.pending := by
  obtain ⟨q, f, h⟩ := appendEvent_eq b s
  rw [h]
  rfl

@[simp] theorem appendThreads_pending (threads : List (List EventBody)) :
    (appendThreads threads s).pending = s.pending := by
  obtain ⟨q, f, n, h⟩ := appendThreads_eq threads s
  rw [h]
  rfl

@[simp] theorem arbitrate_pending : (arbitrate s).pending = s.pending := by rw [arbitrate_eq]

@[simp] theorem arrive_pending : (arrive s).pending = s.pending := by rw [arrive_eq]

@[simp] theorem schedule_pending : (schedule s).pending = s.pending := by rw [schedule_eq]

@[simp] theorem beginUnwind_pending : (beginUnwind s).pending = s.pending := by rw [beginUnwind_eq]

@[simp] theorem openVoid_pending (d : Byte) : (openVoid d s).pending = s.pending := appendEvent_pending s _

theorem closeBatch_pending : (closeBatch s).pending = s.pending := appendThreads_pending _ _

/-! #### The report link -/

@[simp] theorem tryStart_pending (n : Nat) : (tryStart n s).pending = s.pending := by rw [tryStart_eq]

@[simp] theorem setFrame_pending (f : Frame) : (setFrame f s).pending = s.pending := by rw [setFrame_eq]

@[simp] theorem appendJob_pending (j : Job) : (appendJob j s).pending = s.pending := by rw [appendJob_eq]

@[simp] theorem dropHead_pending (k : EventKind) (d : Job → Byte) (l : LinkState) :
    (dropHead k d l s).pending = s.pending := by
  obtain ⟨q, f, h⟩ := dropHead_eq k d l s
  rw [h]
  rfl

@[simp] theorem completeFrame_pending (f : Frame) : (completeFrame f s).pending = s.pending := by simp [completeFrame]

@[simp] theorem frameEnd_pending : (frameEnd s).pending = s.pending := by
  unfold frameEnd
  split <;> simp

@[simp] theorem linkTimeout_pending : (linkTimeout s).pending = s.pending := by
  unfold linkTimeout
  split <;> simp [timeoutFrame]

theorem fallingEdge_pending : (fallingEdge s).pending = s.pending := by
  unfold fallingEdge
  split <;> simp [apply_ite State.pending]

theorem risingEdge_pending : (risingEdge s).pending = s.pending := by
  unfold risingEdge
  split <;> simp [apply_ite State.pending]

/-! #### The takes and the sequencer -/

@[simp] theorem complete_pending (op : Opcode) (o : Operands) (st : Status) :
    (complete op o st s).pending = s.pending := rfl

theorem arithBody_pending (op : Opcode) (o : Operands) : (arithBody op o s).pending = s.pending := by
  have hrequest : ∀ u, (requestEngine op o u).pending = u.pending := fun u => arrive_pending _
  have hrefuse : (refuseUndoFull op o s).pending = s.pending := by simp [refuseUndoFull]
  unfold arithBody
  split
  · split
    · exact hrefuse
    · exact hrequest _
  · exact hrequest s

theorem takeBody_pending (op : Opcode) (o : Operands) : (takeBody op o s).pending = s.pending := by
  cases op with
  | mark | chanclear | batchOpen | reportPeriodic => exact complete_pending _ _ o .done
  | add | sub | move | negate | clear | compare => exact arithBody_pending s _ o
  | setattr => simp [takeBody, setattrBody, apply_ite State.pending]
  | setthresh => unfold takeBody setthreshBody; dsimp only; split <;> simp [apply_ite State.pending]
  | chanconfig => simp [takeBody, chanconfigBody, apply_ite State.pending]
  | batchCommit => simp [takeBody, commitBatch_eq, closeBatch_pending]
  | batchAbort => unfold takeBody batchAbortBody; dsimp only; split <;> simp [endUnwind, enterUnwinding]
  | report => simp [takeBody, reportBody, apply_ite State.pending]

theorem take_pending (op : Opcode) (o : Operands) : (take op o s).pending = s.pending := by
  rw [take_eq]
  rcases checked_cases op o (takeBody op o) s with
    ⟨-, -, h⟩ | ⟨-, -, h⟩ | ⟨-, -, h⟩ | ⟨st, -, -, -, h⟩ | ⟨-, -, -, h⟩ <;> rw [h]
  case inr.inr.inr.inr => exact takeBody_pending s op o
  all_goals rfl

theorem takeRecord_pending (r : CmdRec) : (takeRecord r s).pending = s.pending := by
  unfold takeRecord
  split
  · exact take_pending _ _ _
  · rfl

@[simp] theorem handOn_pending (e : Bool) : (handOn e s).pending = s.pending := by
  unfold handOn
  split
  · rfl
  · refine passOnFor_keeps (fun t => t.pending = s.pending) (fun t h _ => h) (fun e t h _ _ => ?_) (fun t h _ _ _ => h)
      (fun r q t h _ _ _ => ?_) _ e s rfl
    · obtain ⟨f, hf⟩ := enterIdle_eq e t
      rw [hf]
      exact h
    · obtain ⟨f, hf⟩ := popQueue_eq t
      rw [hf]
      exact (takeRecord_pending _ r).trans h

@[simp] theorem resume_pending : (resume s).pending = s.pending := by
  simp [resume_eq, apply_ite State.pending]

theorem takeStep_pending (op : Opcode) (o : Operands) : (takeStep op o (take op o) s).pending = s.pending := by
  obtain ⟨f, hbegin⟩ := beginTake_eq s
  rw [takeStep_eq, hbegin]
  split
  · exact (handOn_pending _ true).trans (take_pending _ op o)
  · rfl

/-! #### The engine completions -/

theorem finishCommand_pending (r : CmdRec) (f : FlagWord) : (finishCommand r f s).pending = s.pending := by
  unfold finishCommand
  split
  · split <;> rfl
  · rfl

theorem postDone_pending (x : Operation) : (postDone x s).pending = s.pending := by
  obtain ⟨q, f, n, h⟩ := postedState_eq x s
  rw [postDone_eq, arbitrate_pending, h]
  rfl

theorem arithDone_pending (r : CmdRec) (x : Operation) : (arithDone r x s).pending = s.pending := by
  have hmember : ∀ ws u, (memberDone ws u).pending = u.pending := fun ws u => by
    simp [memberDone, apply_ite State.pending]
  have hplain : ∀ ws u, (plainDone ws u).pending = u.pending := fun ws u => by simp [plainDone]
  simp [arithDone, freeEngine, apply_ite State.pending, hmember, hplain, finishCommand_pending]

theorem restoreDone_pending (x : Operation) : (restoreDone x s).pending = s.pending := by
  have habort : ∀ u, (finishAbort u).pending = u.pending := fun u => by rw [finishAbort_eq]
  unfold restoreDone
  dsimp only
  rw [resume_pending, arbitrate_pending]
  split
  · exact habort _
  · rfl

/-! #### The events of an instant -/

theorem unitArrives_pending (ch : Fin 8) : (unitArrives ch s).pending = s.pending := by
  simp [unitArrives, apply_ite State.pending]

theorem batchExpiry_pending : (batchExpiry s).pending = s.pending := by simp [batchExpiry, apply_ite State.pending]

theorem intervalReload_pending : (intervalReload s).pending = s.pending := by
  unfold intervalReload periodicJob
  split <;> simp [apply_ite State.pending]

@[simp] theorem intervalEvent_pending : (intervalEvent s).pending = s.pending := by
  simp [intervalEvent, apply_ite State.pending]

theorem runTimed_pending (e : TimedEvent) : (runTimed e s).pending = s.pending := by
  cases e with
  | unit ch => exact unitArrives_pending s ch
  | frameEnd => exact frameEnd_pending s
  | batchExpiry => exact batchExpiry_pending s
  | intervalReload => exact intervalReload_pending s
  | intervalEvent => exact intervalEvent_pending s
  | linkTimeout => exact linkTimeout_pending s

theorem runThreads_pending (threads : List (List TimedEvent)) :
    (runThreads runTimed threads s).pending = s.pending :=
  runThreads_keeps runTimed (fun t => t.pending = s.pending) (fun e t h => (runTimed_pending t e).trans h)
    (fun _ _ h => h) threads s rfl

theorem deliverTick_pending (others : List (List TimedEvent)) : (deliverTick others s).pending = s.pending := by
  have hlower : ∀ u, (timeoutLower u).pending = u.pending := fun u => by
    unfold timeoutLower
    split
    · split <;> simp [apply_ite State.pending]
    · rfl
  exact (runThreads_pending _ _).trans (hlower _)

theorem sampledState_pending (levels : Byte) : (sampledState levels s).pending = s.pending := by
  have hdriven : (drivenAdvance s).pending = s.pending := by
    unfold drivenAdvance
    split <;> simp [apply_ite State.pending]
  exact hdriven

/-! #### The register window and the resets -/

theorem interfaceReset_pending : (interfaceReset s).pending = s.pending :=
  (congrArg State.pending (interfaceReset_eq s)).trans (resetHostState_pending s)

theorem popEvents_pending : (popEvents s).pending = s.pending := by
  obtain ⟨q, f, h⟩ := popEvents_eq s
  rw [h]
  rfl

theorem popRing_pending : (popRing s).pending = s.pending := by
  unfold popRing
  split
  · rfl
  · exact handOn_pending _ false

theorem submitWrite_pending : (submitWrite s).pending = s.pending := by
  unfold submitWrite
  dsimp only
  split
  · exact handOn_pending _ false
  · rfl

theorem writeLinkctrl_pending (v : Byte) : (writeLinkctrl v s).pending = s.pending := by
  rcases writeLinkctrl_cases v s with ⟨l, h⟩ | h <;> rw [h]
  · rfl
  · exact dropHead_pending _ _ _ _

theorem writeReg_pending (a : Nat) (v : Byte) : (writeReg a v s).pending = s.pending :=
  writeReg_cases (P := fun t => t.pending = s.pending)
    (control := iteInduction (motive := fun t : State => t.pending = s.pending) (fun _ => interfaceReset_pending s)
      fun _ => rfl)
    (window := fun _ => rfl) (submit := submitWrite_pending s) (ring := popRing_pending s)
    (events := popEvents_pending s) (interval := fun _ => rfl) (limit := fun _ => rfl)
    (linkctrl := writeLinkctrl_pending s v) (timeout := rfl) (none := rfl) a

theorem hostWrite_pending (a : Nat) (v : Byte) : (hostWrite (writeReg a v) s).pending = s.pending := by
  unfold hostWrite
  split
  · exact writeReg_pending (phaseToState s) a v
  · rfl

theorem readReg_pending (a : Nat) : (readReg a s).pending = s.pending :=
  readReg_cases (P := fun t => t.pending = s.pending) rfl (fun _ _ _ _ _ _ => rfl) a

end

/-! #### Every command -/

/-- Logs 7, 9: no row touches the commands that wait. -/
theorem exec_pending {c : Instr} {s t : State} (h : exec c s = .next t) : t.pending = s.pending :=
  exec_rows (P := fun _ t => t.pending = s.pending)
    (powerOn := rfl)
    (reset := iteInduction (motive := fun t : State => t.pending = s.pending) (fun _ => interfaceReset_pending s)
      fun _ => rfl)
    (rise := rfl)
    (sample := fun l t ht => by
      rw [execSample_eq] at ht
      cases ht
      split
      · exact (deliverTick_pending _ _).trans (sampledState_pending s l)
      · exact (runThreads_pending _ _).trans (sampledState_pending s l))
    (unit := fun ch t ht => by
      cases ht
      split
      · exact unitArrives_pending _ ch
      · rfl)
    (tick := deliverTick_pending _ [])
    (grant := arrive_pending s)
    (post := fun t ht => by
      rcases execPostCompletion_cases ht with ⟨_, _, _, _, -, rfl⟩ | rfl
      · exact postDone_pending s _
      · rfl)
    (arith := fun t ht => by
      rcases execArithmeticCompletion_cases ht with ⟨_, _, -, -, -, rfl⟩ | rfl
      · exact arithDone_pending s _ _
      · rfl)
    (restore := fun t ht => by
      rcases execRestoreCompletion_cases ht with ⟨_, _, -, rfl⟩ | rfl
      · exact restoreDone_pending s _
      · rfl)
    (takes := fun op o => takeStep_pending s op o)
    (batchTimer := iteInduction (motive := fun t : State => t.pending = s.pending) (fun _ => batchExpiry_pending s)
      fun _ => rfl)
    (interval := iteInduction (motive := fun t : State => t.pending = s.pending)
      (fun _ => (intervalEvent_pending _).trans (intervalReload_pending s)) fun _ => rfl)
    (frame := frameEnd_pending s)
    (timeout := linkTimeout_pending s)
    (write := fun _ a v _ => hostWrite_pending s a.toNat v)
    (read := fun _ a _ => readReg_pending s a.toNat)
    (falling := fallingEdge_pending s)
    (rising := risingEdge_pending s) h

/-- R178, R192: no command stops the part: only the engine completions branch before they answer, and each branch
answers a next state. -/
theorem exec_answers_next (c : Instr) (s : State) : ∃ t, exec c s = .next t := by
  cases c with
  | postCompletion =>
    change ∃ t, execPostCompletion s = .next t
    unfold execPostCompletion
    split <;> exact ⟨_, rfl⟩
  | arithmeticCompletion =>
    change ∃ t, execArithmeticCompletion s = .next t
    unfold execArithmeticCompletion
    split <;> exact ⟨_, rfl⟩
  | restoreCompletion =>
    change ∃ t, execRestoreCompletion s = .next t
    unfold execRestoreCompletion
    split <;> exact ⟨_, rfl⟩
  | _ => exact ⟨_, rfl⟩

/-- Settles O2: a next state, and in it the commands that waited. -/
theorem commandsAnswerNextAndKeepQueue : Obligations.CommandsAnswerNextAndKeepQueue := by
  intro c s
  obtain ⟨t, h⟩ := exec_answers_next c s
  exact ⟨t, h, exec_pending h⟩

end Sys2Proof.Machine
end

section
/-! ### The host register window: RSTn, CONTROL, the interrupt registers and the captures (R182, R187–R192) -/

namespace Sys2Proof.Machine

open Sys2Proof.Safety

/-! #### While RSTn is low (R192) -/

/-- Settles O12: a step idles, or runs one command, which keeps or makes the reset values. -/
theorem hostStateStaysReset : Obligations.HostStateStaysReset := by
  intro s t hs h
  unfold step at h
  split at h
  · cases h
    exact hs
  · exact exec_hostQuiet h hs

theorem hostWrite_low (act : State → State) {s : State} (hr : s.rstn = false) : hostWrite act s = s :=
  if_neg (Bool.eq_false_iff.mp hr)

theorem readReg_low (a : Nat) {s : State} (hr : s.rstn = false) : readReg a s = s.withBusOut 0 :=
  readReg_cases (P := fun t => t = s.withBusOut 0) rfl (fun h => absurd h (Bool.eq_false_iff.mp hr)) a

/-- Settles O20: the writes, the reads, and the rise. -/
theorem windowIgnoredWhileResetLow : Obligations.WindowIgnoredWhileResetLow := by
  refine ⟨fun c s hr hc => ?_, fun c s hr hc => ?_, fun _ => rfl⟩
  · obtain ⟨⟨a, v⟩, hw⟩ := Option.isSome_iff_exists.mp hc
    rw [exec_windowWrite hw, hostWrite_low _ hr]
  · obtain ⟨a, ha⟩ := Option.isSome_iff_exists.mp hc
    rw [exec_windowRead ha, readReg_low _ hr]
    rfl

/-! #### CONTROL (R182, R191) -/

/-- R191: an interface reset returns the link to its reset values, whatever the phase of LINKSTATUS. -/
theorem interfaceReset_phaseToState (s : State) : interfaceReset (phaseToState s) = interfaceReset s := rfl

theorem interfaceReset_rstn (s : State) : (interfaceReset s).rstn = s.rstn :=
  (congrArg State.rstn (interfaceReset_eq s)).trans (resetHostState_rstn s)

theorem interfaceReset_window (s : State) : (interfaceReset s).window = Window.cleared :=
  (congrArg State.window (interfaceReset_eq s)).trans (resetHostState_window s)

theorem exec_interfaceReset_high {s : State} (hr : s.rstn = true) :
    exec .interfaceReset s = .next ((interfaceReset s).withRstn false) :=
  congrArg Host.Outcome.next (if_pos hr)

/-- R182: a write of CONTROL that takes effect, by bit 0. -/
theorem exec_control_write {c : Instr} {v : Byte} (h : windowWrite c = some (0x01, v)) {s : State}
    (hr : s.rstn = true) : exec c s = .next (if v.getLsbD 0 then interfaceReset s else phaseToState s) := by
  rw [exec_windowWrite_high h hr, ← interfaceReset_phaseToState]
  rfl

/-- Settles O54: by bit 0 of the write, both spellings of it alike. -/
theorem initResetsInterface : Obligations.InitResetsInterface := by
  intro v s hr
  have hinit := exec_control_write (c := .init v) rfl hr
  have hwrite := exec_control_write (c := .registerWrite 0x01 v) rfl hr
  refine ⟨fun hv => ?_, fun hv => ?_, exec_readAccess_plain (a := 0x01) hr rfl⟩
  · rw [hv] at hinit hwrite
    exact ⟨hinit, hwrite⟩
  · rw [hv] at hinit hwrite
    have hwindow := interfaceReset_window s
    refine ⟨interfaceReset s, hinit, exec_interfaceReset_high hr, hwrite, (interfaceReset_rstn s).trans hr, hwindow,
      ?_⟩
    unfold irqnLow
    rw [hwindow]
    rfl

/-! #### The interrupt registers (R189, R190) -/

/-- R189, R190: the bits that two registers of interrupt bits have in common. -/
theorem IrqBits.toByte_and (f e : IrqBits) : f.toByte &&& e.toByte
    = (IrqBits.mk (f.comp && e.comp) (f.evt && e.evt) (f.space && e.space) (f.quiet && e.quiet)).toByte := by
  obtain ⟨c, v, p, q⟩ := f
  obtain ⟨c', v', p', q'⟩ := e
  revert c v p q c' v' p' q'
  decide

theorem bit_eq_zero {b : Bool} {n : Nat} : bit b n = 0 ↔ b = false := by
  cases b <;> simp [bit]

theorem IrqBits.toByte_eq_zero (f : IrqBits) :
    f.toByte = 0 ↔ f.comp = false ∧ f.evt = false ∧ f.space = false ∧ f.quiet = false := by
  have hzero : f.toByte = 0 ↔ f.toByte.toNat = 0 := BitVec.toNat_inj.symm
  rw [hzero, f.toByte_toNat]
  simp only [Nat.add_eq_zero_iff, bit_eq_zero, and_assoc]

/-- R190: IRQn is low exactly while the flags and the enables have a bit in common. -/
theorem irqAsserted_iff (w : Window) : irqAsserted w = true ↔ w.irqFlag.toByte &&& w.irqEn.toByte ≠ 0 := by
  rw [IrqBits.toByte_and, Ne, IrqBits.toByte_eq_zero, ← Bool.not_eq_false]
  simp only [irqAsserted, Bool.or_eq_false_iff, and_assoc]

/-- Settles O53: the two writes, and the line by the bits of the two registers. -/
theorem interruptRegisters : Obligations.InterruptRegisters := fun v s hr =>
  ⟨exec_windowWrite_high (c := .irqflag v) rfl hr, exec_windowWrite_high (c := .irqen v) rfl hr,
    irqAsserted_iff s.window⟩

/-! #### The captures (R187, R188) -/

theorem selectedAcc_eq {w : Window} {i : Fin 32} (h : i.val = w.accSel.toNat) : selectedAcc w = i := Fin.ext h.symm

theorem selectedChan_eq {w : Window} {ch : Fin 8} (h : ch.val = w.chSel.toNat) : selectedChan w = ch := Fin.ext h.symm

/-- R178, R187: the capture of an entry, and its first byte on the bus. -/
theorem exec_accumulatorCapture {s : State} (hr : s.rstn = true) {i : Fin 32} (hi : i.val = s.window.accSel.toNat) :
    exec .accumulatorCapture s = .next { s with
      window := { s.window with accBuf := accRecord s.entries[i] }, busOut := (accRecord s.entries[i])[0]
      link := { s.link with lsPhase := .state } } := by
  obtain rfl := selectedAcc_eq hi
  exact congrArg _ (hostRead_high 0x21 captureAcc hr)

/-- R178, R188: the capture of a channel, and its first byte on the bus. -/
theorem exec_channelCapture {s : State} (hr : s.rstn = true) {ch : Fin 8} (hch : ch.val = s.window.chSel.toNat) :
    exec .channelCapture s = .next { s with
      window := { s.window with chBuf := chanRecordBytes s.chans[ch] }, busOut := (chanRecordBytes s.chans[ch])[0]
      link := { s.link with lsPhase := .state } } := by
  obtain rfl := selectedChan_eq hch
  exact congrArg _ (hostRead_high 0x29 captureChan hr)

/-- Settles O55: the bytes of the two captures are those of the records selected. -/
theorem capturesCopyRecords : Obligations.CapturesCopyRecords := fun _ hr =>
  ⟨fun _ hi => exec_accumulatorCapture hr hi, fun _ hch => exec_channelCapture hr hch⟩

end Sys2Proof.Machine
end

section
/-! ### The queue of commands -/

namespace Sys2Proof.Machine

theorem step_of_pending_cons {c : Instr} {rest : List Instr} {s : State} (h : s.pending = c :: rest) :
    step s = exec c (s.withPending rest) := by
  rw [step, h]

theorem step_of_pending_nil {s : State} (h : s.pending = []) : step s = .next s := by
  rw [step, h]

/-- Settles O1: one equation for each form of the queue. -/
theorem stepRunsFrontCommand : Obligations.StepRunsFrontCommand :=
  ⟨fun _ _ _ => step_of_pending_cons, fun _ => step_of_pending_nil⟩

end Sys2Proof.Machine
end
